-- ==== Sys2Proof/Word.lean ====
section
/-! DEFINITION. The word types of TLC-CFR (00_scope.md section 6): a byte is 8 bits, a word 32, an operation word 64. -/

namespace Sys2Proof

/-- A byte: one unit of the buffers and the queues. -/
abbrev Byte := BitVec 8

/-- A word: 32 bits, the width of a register as the host reads it. -/
abbrev Word := BitVec 32

/-- An operation word `W` (R60): 64 bits, a value without byte order (R41). -/
abbrev OpWord := BitVec 64

end Sys2Proof
end

