-- ==== Sys2Proof/Syntax.lean ====
section
/-! DEFINITION. The 17 operations of TLC-CFR (30_encoding.md R61), one constructor per row of spec/opcode_table.json. -/

namespace Sys2Proof

/-- An operation with its operands. Offsets, lengths, indices, `k` and register numbers are naturals, "compared or used
at full natural-number precision" (R62); data bytes, halfwords and register values are bits; the operand of
`FRM.PUT16S` is the signed value the host means (R104). -/
inductive Instr where
  /-- `CRC.INIT` (R85). -/
  | crcInit
  /-- `CRC.BYTE b` (R86). -/
  | crcByte (b : Byte)
  /-- `CRC.READ` (R87). -/
  | crcRead
  /-- `CRC.RUNTX n` (R88). -/
  | crcRuntx (n : Nat)
  /-- `CRC.RUNRX n` (R89). -/
  | crcRunrx (n : Nat)
  /-- `FRM.OPEN opc, k` (R101). -/
  | frmOpen (opc : Byte) (k : Nat)
  /-- `FRM.PUT8 off, v` (R102). -/
  | frmPut8 (off : Nat) (v : Byte)
  /-- `FRM.PUT16U off, v` (R103). -/
  | frmPut16u (off : Nat) (v : BitVec 16)
  /-- `FRM.PUT16S off, v` (R104). -/
  | frmPut16s (off : Nat) (v : Int)
  /-- `FRM.SEAL` (R105). -/
  | frmSeal
  /-- `FRM.SEND` (R106). -/
  | frmSend
  /-- `FRM.GET off` (R107). -/
  | frmGet (off : Nat)
  /-- `RX.START e` (R121). -/
  | rxStart (e : Nat)
  /-- `RX.GET i` (R122). -/
  | rxGet (idx : Nat)
  /-- `RX.RAW i` (R123). -/
  | rxRaw (idx : Nat)
  /-- `CFG.RD r` (R150). -/
  | cfgRd (r : Nat)
  /-- `CFG.WR r, v` (R151). -/
  | cfgWr (r : Nat) (v : Word)
  deriving DecidableEq, Repr

end Sys2Proof
end

