-- ==== Sys2Proof/WellFormed.lean ====
section
/-! DEFINITION. Which operations have a word: every operand fits the field R61 gives it. (A `k`, an offset or a register
number that fits its field and is out of its RANGE is well formed: the block refuses it when it executes it, R165.) -/

namespace Sys2Proof

/-- A natural that fits an unsigned field of `bits` bits. -/
def fitsField (bits n : Nat) : Bool := decide (n < 2 ^ bits)

/-- Every operand fits its field (R60 widths, R61 use; R104 for the signed operand). -/
def Instr.wellFormed : Instr → Bool
  | .crcInit => true
  | .crcByte _ => true
  | .crcRead => true
  | .crcRuntx n => fitsField 16 n
  | .crcRunrx n => fitsField 32 n
  | .frmOpen _ k => fitsField 8 k
  | .frmPut8 off _ => fitsField 8 off
  | .frmPut16u off _ => fitsField 8 off
  | .frmPut16s off v => fitsField 8 off && decide (-32768 ≤ v ∧ v ≤ 32767)
  | .frmSeal => true
  | .frmSend => true
  | .frmGet off => fitsField 8 off
  | .rxStart e => fitsField 16 e
  | .rxGet idx => fitsField 16 idx
  | .rxRaw idx => fitsField 32 idx
  | .cfgRd r => fitsField 8 r
  | .cfgWr r _ => fitsField 8 r

end Sys2Proof
end

