-- ==== Sys2Proof/Decode.lean ====
section
/-! DEFINITION. The decoder, total on 64-bit operation words (R64), the encoder beside it, and the opcode table of R63 as
masks and patterns. -/

namespace Sys2Proof

/-- The four fields of format `O` (R60). -/
structure Fields where
  /-- `W[63:56]`: operation code. -/
  op : Byte
  /-- `W[55:48]`: byte operand. -/
  a : Byte
  /-- `W[47:32]`: halfword operand. -/
  h : BitVec 16
  /-- `W[31:0]`: word operand. -/
  d : Word
  deriving DecidableEq, Repr

/-- Cutting a word into its fields (R60). -/
def OpWord.fields (w : OpWord) : Fields where
  op := w.extractLsb' 56 8
  a := w.extractLsb' 48 8
  h := w.extractLsb' 32 16
  d := w.extractLsb' 0 32

/-- Putting the fields together, `op` in the high bits (R60). -/
def Fields.word (f : Fields) : OpWord := f.op ++ f.a ++ f.h ++ f.d

/-- Why a word is illegal (R64, R162). Both are refused with `ERR.ILLEGAL`. -/
inductive Illegal where
  /-- An `op` byte that is not in R61. -/
  | undefinedOperation (op : Byte)
  /-- A defined `op` with a non-zero bit in a field it does not use. -/
  | unusedFieldNotZero (op : Byte)
  deriving DecidableEq, Repr

/-- `h[7:0]`, the part of `h` that a "low 8" operand uses (R61). -/
def Fields.hLow (f : Fields) : Byte := f.h.extractLsb' 0 8

/-- `h[15:8]`, which must be zero where a "low 8" operand is used (R61). -/
def Fields.hHigh (f : Fields) : Byte := f.h.extractLsb' 8 8

/-- The operation, if its unused bits are zero (R61). -/
def Fields.legalIf (f : Fields) (unusedZero : Bool) (i : Instr) : Except Illegal Instr :=
  if unusedZero then .ok i else .error (.unusedFieldNotZero f.op)

/-- Decoding of the fields: R61's table, the must-be-zero fields of each row first. -/
def Fields.decode (f : Fields) : Except Illegal Instr :=
  match f.op.toNat with
  | 0x01 => f.legalIf (f.a == 0 && f.h == 0 && f.d == 0) .crcInit
  | 0x02 => f.legalIf (f.a == 0 && f.hHigh == 0 && f.d == 0) (.crcByte f.hLow)
  | 0x03 => f.legalIf (f.a == 0 && f.h == 0 && f.d == 0) .crcRead
  | 0x04 => f.legalIf (f.a == 0 && f.d == 0) (.crcRuntx f.h.toNat)
  | 0x05 => f.legalIf (f.a == 0 && f.h == 0) (.crcRunrx f.d.toNat)
  | 0x10 => f.legalIf (f.hHigh == 0 && f.d == 0) (.frmOpen f.a f.hLow.toNat)
  | 0x11 => f.legalIf (f.hHigh == 0 && f.d == 0) (.frmPut8 f.a.toNat f.hLow)
  | 0x12 => f.legalIf (f.d == 0) (.frmPut16u f.a.toNat f.h)
  | 0x13 => f.legalIf (f.d == 0) (.frmPut16s f.a.toNat f.h.toInt)
  | 0x14 => f.legalIf (f.a == 0 && f.h == 0 && f.d == 0) .frmSeal
  | 0x15 => f.legalIf (f.a == 0 && f.h == 0 && f.d == 0) .frmSend
  | 0x16 => f.legalIf (f.h == 0 && f.d == 0) (.frmGet f.a.toNat)
  | 0x20 => f.legalIf (f.a == 0 && f.d == 0) (.rxStart f.h.toNat)
  | 0x21 => f.legalIf (f.a == 0 && f.d == 0) (.rxGet f.h.toNat)
  | 0x22 => f.legalIf (f.a == 0 && f.h == 0) (.rxRaw f.d.toNat)
  | 0x30 => f.legalIf (f.h == 0 && f.d == 0) (.cfgRd f.a.toNat)
  | 0x31 => f.legalIf (f.h == 0) (.cfgWr f.a.toNat f.d)
  | _ => .error (.undefinedOperation f.op)

/-- The decoder: every 64-bit value is one of the 17 operations or illegal (R64). -/
def decode (w : OpWord) : Except Illegal Instr := w.fields.decode

/-- A byte operand in the low half of `h` (R61, "low 8"). -/
def lowHalf (b : Byte) : BitVec 16 := b.zeroExtend 16

/-- The fields of an operation's word, row by row of R61; a field an operation does not use is zero. -/
def Instr.fields : Instr → Fields
  | .crcInit => ⟨0x01, 0, 0, 0⟩
  | .crcByte b => ⟨0x02, 0, lowHalf b, 0⟩
  | .crcRead => ⟨0x03, 0, 0, 0⟩
  | .crcRuntx n => ⟨0x04, 0, BitVec.ofNat 16 n, 0⟩
  | .crcRunrx n => ⟨0x05, 0, 0, BitVec.ofNat 32 n⟩
  | .frmOpen opc k => ⟨0x10, opc, lowHalf (BitVec.ofNat 8 k), 0⟩
  | .frmPut8 off v => ⟨0x11, BitVec.ofNat 8 off, lowHalf v, 0⟩
  | .frmPut16u off v => ⟨0x12, BitVec.ofNat 8 off, v, 0⟩
  | .frmPut16s off v => ⟨0x13, BitVec.ofNat 8 off, BitVec.ofInt 16 v, 0⟩
  | .frmSeal => ⟨0x14, 0, 0, 0⟩
  | .frmSend => ⟨0x15, 0, 0, 0⟩
  | .frmGet off => ⟨0x16, BitVec.ofNat 8 off, 0, 0⟩
  | .rxStart e => ⟨0x20, 0, BitVec.ofNat 16 e, 0⟩
  | .rxGet idx => ⟨0x21, 0, BitVec.ofNat 16 idx, 0⟩
  | .rxRaw idx => ⟨0x22, 0, 0, BitVec.ofNat 32 idx⟩
  | .cfgRd r => ⟨0x30, BitVec.ofNat 8 r, 0, 0⟩
  | .cfgWr r v => ⟨0x31, BitVec.ofNat 8 r, 0, v⟩

/-- The encoder: the word of an operation. On a well-formed operation no bit of an operand is lost. -/
def encode (i : Instr) : OpWord := i.fields.word

/-- One row of spec/opcode_table.json: a word is an instance iff `(W AND mask) = pattern` (R63). -/
structure TableRow where
  /-- The table's "mask". -/
  mask : OpWord
  /-- The table's "match". -/
  pattern : OpWord
  deriving DecidableEq, Repr

/-- The table's row of each operation, its numbers copied from spec/opcode_table.json. The decoder does not use it. -/
def Instr.tableRow : Instr → TableRow
  | .crcInit => ⟨0xFFFFFFFFFFFFFFFF, 0x0100000000000000⟩
  | .crcByte _ => ⟨0xFFFFFF00FFFFFFFF, 0x0200000000000000⟩
  | .crcRead => ⟨0xFFFFFFFFFFFFFFFF, 0x0300000000000000⟩
  | .crcRuntx _ => ⟨0xFFFF0000FFFFFFFF, 0x0400000000000000⟩
  | .crcRunrx _ => ⟨0xFFFFFFFF00000000, 0x0500000000000000⟩
  | .frmOpen _ _ => ⟨0xFF00FF00FFFFFFFF, 0x1000000000000000⟩
  | .frmPut8 _ _ => ⟨0xFF00FF00FFFFFFFF, 0x1100000000000000⟩
  | .frmPut16u _ _ => ⟨0xFF000000FFFFFFFF, 0x1200000000000000⟩
  | .frmPut16s _ _ => ⟨0xFF000000FFFFFFFF, 0x1300000000000000⟩
  | .frmSeal => ⟨0xFFFFFFFFFFFFFFFF, 0x1400000000000000⟩
  | .frmSend => ⟨0xFFFFFFFFFFFFFFFF, 0x1500000000000000⟩
  | .frmGet _ => ⟨0xFF00FFFFFFFFFFFF, 0x1600000000000000⟩
  | .rxStart _ => ⟨0xFFFF0000FFFFFFFF, 0x2000000000000000⟩
  | .rxGet _ => ⟨0xFFFF0000FFFFFFFF, 0x2100000000000000⟩
  | .rxRaw _ => ⟨0xFFFFFFFF00000000, 0x2200000000000000⟩
  | .cfgRd _ => ⟨0xFF00FFFFFFFFFFFF, 0x3000000000000000⟩
  | .cfgWr _ _ => ⟨0xFF00FFFF00000000, 0x3100000000000000⟩

/-- The 17 rows of spec/opcode_table.json, in its order. -/
def opcodeTable : List TableRow :=
  [Instr.crcInit, .crcByte 0, .crcRead, .crcRuntx 0, .crcRunrx 0, .frmOpen 0 0, .frmPut8 0 0, .frmPut16u 0 0,
   .frmPut16s 0 0, .frmSeal, .frmSend, .frmGet 0, .rxStart 0, .rxGet 0, .rxRaw 0, .cfgRd 0, .cfgWr 0 0].map
    Instr.tableRow

/-- What the decoder reads from the instruction whose bits are `w`, bit 0 the least significant bit of `W`, of which the
table gives `nbits`; every bit above is 0. One operation word is one 64-bit value (R60), so there are no further words. -/
def decodeTableWord (nbits w : Nat) : Option Instr :=
  match decode (BitVec.ofNat 64 (w % 2 ^ nbits)) with
  | .ok i => some i
  | .error _ => none

end Sys2Proof
end

