-- ==== Sys2Proof/Config.lean ====
section
/-! DEFINITION. What is fixed for one block: the constants of R6, the decided sizes of R8, the OPEN parameters of R7, and
the queue contents that reset leaves open (R24). -/

namespace Sys2Proof.Config

/-- `FRAME_BASE` (R6): bytes of the base command frame, trailer included. -/
def frameBase : Nat := 14

/-- `CRC_LEN` (R6): bytes of the checksum trailer of both frame kinds. -/
def crcLen : Nat := 4

/-- `RSP_HDR_LEN` (R6): bytes of the response header (marker, type, length). -/
def rspHdrLen : Nat := 4

/-- `RSP_OVERHEAD` (R6): header and checksum of a response. -/
def rspOverhead : Nat := 8

/-- `CRC_POLY_RESET` (R6). -/
def crcPolyReset : Word := 0x04C11DB7

/-- `CRC_INIT_RESET` (R6). -/
def crcInitReset : Word := 0xFFFFFFFF

/-- `CRC_XOROUT_RESET` (R6). -/
def crcXoroutReset : Word := 0x00000000

/-- `K_MAX` (R8): the largest `k` of a `14 + 2k` frame. -/
def kMax : Nat := 4

/-- `TXBUF_SIZE` (R8): bytes of the transmit buffer. -/
def txbufSize : Nat := 22

/-- `RXBUF_SIZE` (R8): bytes of the reassembly buffer. -/
def rxbufSize : Nat := 65543

/-- `NREG` (R8): configuration and status registers. -/
def nreg : Nat := 16

/-- `CRC_FOLD` (R7): where a byte enters the accumulator, and so how many bit steps it takes (R82, R83). -/
inductive Fold where
  | msb8
  | word32
  deriving DecidableEq, Repr, Inhabited

/-- The OPEN parameters of one instance of the hardware (R7), together. -/
structure Params where
  /-- `CMD_START_MARK`. -/
  cmdStartMark : Byte
  /-- `RSP_START_MARK`. -/
  rspStartMark : Byte
  /-- `CRC_FOLD`. -/
  crcFold : Fold
  /-- `RETRY_BUDGET`, a natural below `2^32`. -/
  retryBudget : Word
  /-- `FAIL_TYPE`. -/
  failType : Byte
  deriving DecidableEq, Repr

/-- The constraint column of R7, "all a proof may assume": the markers differ, the budget is at least 1 (its width says
that it is below `2^32`). -/
def Params.legal (p : Params) : Bool :=
  p.rspStartMark != p.cmdStartMark && p.retryBudget != 0

/-! The free values. R7: each parameter is `OPEN`. No body: nothing can be proved of a value. UNVERIFIED by any source;
safe (log 1). The two constrained parameters are built from free values so that every legal pair and every legal budget
is reached and nothing else. -/

/-- FREE: `CMD_START_MARK` of the block in hand. -/
opaque cmdStartMark : Byte

/-- FREE: how far `RSP_START_MARK` lies after `CMD_START_MARK` (cyclically), less one. -/
opaque rspMarkDistance : Fin 255

/-- FREE: `CRC_FOLD` of the block in hand. -/
opaque crcFold : Fold

/-- FREE: `RETRY_BUDGET` of the block in hand, less one. -/
opaque retryBudgetLessOne : Fin 4294967295

/-- FREE: `FAIL_TYPE` of the block in hand. -/
opaque failType : Byte

/-- The OPEN parameters of the block in hand: any that R7 allows. -/
def params : Params where
  cmdStartMark := cmdStartMark
  rspStartMark := cmdStartMark + BitVec.ofNat 8 (rspMarkDistance.val + 1)
  crcFold := crcFold
  retryBudget := BitVec.ofNat 32 (retryBudgetLessOne.val + 1)
  failType := failType

/-- FREE: what `TXQ` holds at reset, "whatever the environment left there" (R24, R36; log 7). -/
opaque txqAtReset : List Byte

/-- FREE: what `RXQ` holds at reset (R24, R36; log 7). -/
opaque rxqAtReset : List Byte

end Sys2Proof.Config
end

