-- ==== Sys2Proof/Machine/State.lean ====
section
/-! DEFINITION. The state of TLC-CFR as plain data, and the state after reset (10_state.md R12 to R37). -/

namespace Sys2Proof.Machine

/-- The bytes of one buffer: (offset, byte) pairs at strictly rising offsets, none equal to what an unlisted offset
reads as (`Memory.wf`, `Memory.unlisted` in Machine/Ops.lean). -/
abbrev Memory := List Host.Cell

/-- `TX_STATE` (R26); the code 3 "never occurs" (R17). -/
inductive TxState where
  /-- `EMPTY`: no frame has been opened since reset. -/
  | empty
  /-- `OPEN`: a frame is being built. -/
  | opened
  /-- `SEALED`: the trailer holds the checksum. -/
  | sealed
  deriving DecidableEq, Repr

/-- `RX_STATE` (R27); the code 3 "never occurs" (R17). -/
inductive RxState where
  /-- `IDLE`: no reassembly since reset. -/
  | idle
  /-- `ACTIVE`: a reassembly is running. -/
  | active
  /-- `DONE`: the last reassembly has ended. -/
  | done
  deriving DecidableEq, Repr

/-- What the block answers to an operation word (R60). -/
structure Answer where
  rdata : Word
  err : Bool
  deriving DecidableEq, Repr

/-- One step of one agent, or the reset event (R9, R71, R180). -/
inductive Event where
  /-- The host hands over an operation word. -/
  | host (w : OpWord)
  /-- The sequencer takes its enabled step, `RX.POLL` or `RX.COMPLETE`. -/
  | sequencer
  /-- `ENV.RXPUSH bs`. -/
  | rxPush (bs : List Byte)
  /-- `ENV.TXPOP`. -/
  | txPop
  /-- The reset input. -/
  | reset
  deriving DecidableEq, Repr

/-- Everything the spec gives the machine, and four fields of the model's own (`inst`, `txWritten`, `answer`, `pending`). -/
structure State where
  /-- MODEL's own: the OPEN parameters of this block (R7). No step changes it (log 1). -/
  inst : Config.Params
  /-- `CRC_POLY`, register 0x00 (R12). -/
  crcPoly : Word
  /-- `CRC_INIT`, register 0x01 (R13). -/
  crcInit : Word
  /-- `CRC_XOROUT`, register 0x02 (R14). -/
  crcXorout : Word
  /-- `CRC_ACC`, register 0x03 (R15). -/
  crcAcc : Word
  /-- `CTRL`, register 0x04: its one used bit (R16). -/
  ctrl : BitVec 1
  /-- `ERR`, register 0x06: its five used bits (R18). -/
  err : BitVec 5
  /-- `TX_STATE` (R26). -/
  txState : TxState
  /-- `TX_SIZE`, register 0x07 (R19). -/
  txSize : BitVec 5
  /-- `TXBUF` (R23). -/
  txbuf : Memory
  /-- MODEL's own: the offsets of `TXBUF` written since the last `FRM.OPEN` began, each once, the history of which R35 (b)
  speaks. Nothing else depends on it (DESIGN CHOICE, log 14). -/
  txWritten : List Nat
  /-- `RX_STATE` (R27). -/
  rxState : RxState
  /-- `RX_OK` (R28). -/
  rxOk : Bool
  /-- `RX_EXPECT`, register 0x08 (R20). -/
  rxExpect : BitVec 16
  /-- `RX_COUNT`, register 0x09 (R21). -/
  rxCount : BitVec 17
  /-- `RX_ITER`, register 0x0A (R22). -/
  rxIter : Word
  /-- `RX_TYPE`, register 0x0B (R29). -/
  rxType : Byte
  /-- `RX_DECL`, register 0x0C (R30). -/
  rxDecl : BitVec 16
  /-- `RX_PLEN`, register 0x0D (R31). -/
  rxPlen : BitVec 16
  /-- `RXBUF` (R25). -/
  rxbuf : Memory
  /-- `TXQ`, head first (R24). -/
  txq : List Byte
  /-- `RXQ`, head first (R24). -/
  rxq : List Byte
  /-- MODEL's own: the answer to the newest operation word, none before the first (R60; DESIGN CHOICE, log 5). -/
  answer : Option Answer
  /-- MODEL's own: the steps to come, next first; any list of steps is a schedule (R9; DESIGN CHOICE, log 2). -/
  pending : List Event
  deriving DecidableEq, Repr

/-- What stops the machine with a fault: nothing. "No behaviour of the block is `fault` or `stuck`"
(93_implementation_defined.md); a misused operation is refused by the block itself and the machine goes on (R161).
Safe: no step can raise one. -/
inductive Fault where
  deriving DecidableEq, Repr

/-- Why an instruction has no meaning in the model. -/
inductive Refusal where
  /-- Raised by an arm of `exec` that is not written yet, and by nothing else; no arm is left unwritten, so no step raises
  it. Safe: the model stops where the block would go on. -/
  | notModelled (mnemonic : String)
  deriving DecidableEq, Repr

/-- The block after reset (R36), for given OPEN parameters and given contents of the environment's queues. The buffers
are all zero: R36 leaves them unspecified and unobservable, decision D21 zeroes them (DESIGN CHOICE, log 6). -/
def State.resetFor (inst : Config.Params) (txq rxq : List Byte) : State where
  inst := inst
  crcPoly := Config.crcPolyReset
  crcInit := Config.crcInitReset
  crcXorout := Config.crcXoroutReset
  crcAcc := 0xFFFFFFFF
  ctrl := 0
  err := 0
  txState := .empty
  txSize := 0
  txbuf := []
  txWritten := []
  rxState := .idle
  rxOk := false
  rxExpect := 0
  rxCount := 0
  rxIter := 0
  rxType := inst.failType
  rxDecl := 0
  rxPlen := 0
  rxbuf := []
  txq := txq
  rxq := rxq
  answer := none
  pending := []

/-- The machine right after reset (R36): any legal OPEN parameters (log 1), any contents of the queues (log 7), no
operation issued yet (log 2). -/
def State.reset : State := State.resetFor Config.params Config.txqAtReset Config.rxqAtReset

end Sys2Proof.Machine
end

