-- ==== Sys2Proof/Machine/Flags.lean ====
section
/-! DEFINITION. The error flags (R18) and the two registers that are views: STATUS (R17) and ID (R33). -/

namespace Sys2Proof.Machine

/-- The five causes, in the order of their bits in `ERR` (R18, R178). -/
inductive ErrFlag where
  | illegal
  | busy
  | seq
  | range
  | rxcrc
  deriving DecidableEq, Repr

/-- The flag's bit number in `ERR` (R18). -/
def ErrFlag.bit : ErrFlag → Nat
  | .illegal => 0
  | .busy => 1
  | .seq => 2
  | .range => 3
  | .rxcrc => 4

/-- `ERR` with the one flag set. -/
def ErrFlag.mask (f : ErrFlag) : BitVec 5 := 1#5 <<< f.bit

/-- The code of `TX_STATE` in `STATUS[1:0]` (R17, R26). -/
def TxState.code : TxState → BitVec 2
  | .empty => 0
  | .opened => 1
  | .sealed => 2

/-- The code of `RX_STATE` in `STATUS[3:2]` (R17, R27). -/
def RxState.code : RxState → BitVec 2
  | .idle => 0
  | .active => 1
  | .done => 2

/-- `STATUS`, register 0x05, assembled at the read (R17). -/
def State.status (s : State) : Word :=
  0#27 ++ BitVec.ofBool s.rxOk ++ s.rxState.code ++ s.txState.code

/-- `CRC_FOLD` as `ID[24]` shows it (R33). -/
def foldCode : Config.Fold → BitVec 1
  | .msb8 => 0
  | .word32 => 1

/-- `ID`, register 0x0F (R33). -/
def State.ident (s : State) : Word :=
  0#7 ++ foldCode s.inst.crcFold ++ BitVec.ofNat 8 Config.kMax ++ s.inst.rspStartMark ++ s.inst.cmdStartMark

/-- `CTRL.RX_CRC_EN` (R16). -/
def State.rxCrcEn (s : State) : Bool := s.ctrl == 1

/-- A flag is set; "it stays set if it already was" (R161), flags are sticky (R18). -/
def State.raise (s : State) (f : ErrFlag) : State := { s with err := s.err ||| f.mask }

/-- `ERR <- ERR AND NOT v` (R151), the counterpart of a return from an error (R169). -/
def State.clearErr (s : State) (v : BitVec 5) : State := { s with err := s.err &&& ~~~v }

end Sys2Proof.Machine
end

