-- ==== Sys2Proof/Machine/Ops.lean ====
section
/-! DEFINITION. The named operations over the buffers, and how an operation ends: the answer (R60) and the refusal, the
block's one form of exception (R161). -/

namespace Sys2Proof.Machine

/-! ## Buffers (20_memory.md) -/

/-- What an offset that nothing is listed for reads as: zero, the reset contents by decision D21 (DESIGN CHOICE, log 6).
R23 and R25: no operation can observe a byte before it is written. -/
def Memory.unlisted : Byte := 0

/-- The canonical form: offsets strictly rising, no entry equal to an unlisted byte. -/
def Memory.wf (m : Memory) : Bool :=
  decide (m.Pairwise fun c d => c.1 < d.1) && m.all fun c => c.2 != Memory.unlisted

/-- Every listed offset lies in a buffer of `size` bytes (R40). -/
def Memory.below (m : Memory) (size : Nat) : Bool := m.all fun c => decide (c.1 < size)

/-- The byte at one offset. -/
def Memory.read (m : Memory) (a : Nat) : Byte := (m.lookup a).getD Memory.unlisted

/-- The bytes at offsets `a` to `a + n - 1`, ascending (`s[a..b)` of 00_scope.md section 6). -/
def Memory.readBytes (m : Memory) (a : Nat) : Nat → List Byte
  | 0 => []
  | n + 1 => m.read a :: m.readBytes (a + 1) n

/-- The cells of a run of bytes from offset `a` on, those that read as unlisted left out. -/
def cellsFrom (a : Nat) : List Byte → Memory
  | [] => []
  | b :: bs => if b = Memory.unlisted then cellsFrom (a + 1) bs else (a, b) :: cellsFrom (a + 1) bs

/-- Writing a run of bytes at offsets `a`, `a + 1`, ... (arrival order, ascending offsets: R42). -/
def Memory.writeBytes (m : Memory) (a : Nat) (bs : List Byte) : Memory :=
  (m.filter fun c => decide (c.1 < a)) ++ cellsFrom a bs ++ m.filter fun c => decide (a + bs.length ≤ c.1)

/-- `MemRead` (00_scope.md section 6): `n` bytes assembled little-endian, the byte at the lowest offset in bits 7:0 (R41). -/
def Memory.memRead (m : Memory) (a : Nat) : Nat → Nat
  | 0 => 0
  | n + 1 => (m.read a).toNat + 256 * m.memRead (a + 1) n

/-- The bytes `v[8i+7 : 8i]` for `i = 0 .. n-1`, the order in which `MemWrite` stores them (R41). -/
def littleEndian : Nat → Nat → List Byte
  | 0, _ => []
  | n + 1, v => BitVec.ofNat 8 v :: littleEndian n (v / 256)

/-- `MemWrite` (00_scope.md section 6). -/
def Memory.memWrite (m : Memory) (a n v : Nat) : Memory := m.writeBytes a (littleEndian n v)

/-- Offsets `a` to `a + n - 1` added to those already recorded. -/
def recordWrites (written : List Nat) (a n : Nat) : List Nat :=
  written ++ (List.range' a n).filter fun i => !written.contains i

/-- Every write to `TXBUF`: the bytes, and the record of where they went (R35 (b); log 14). -/
def State.writeTx (s : State) (a : Nat) (bs : List Byte) : State :=
  { s with txbuf := s.txbuf.writeBytes a bs, txWritten := recordWrites s.txWritten a bs.length }

/-- `MemWrite(TXBUF, a, n, v)` (00_scope.md section 6). -/
def State.memWriteTx (s : State) (a n v : Nat) : State := s.writeTx a (littleEndian n v)

/-! ## How an operation ends -/

/-- `answer v` of the notation (00_scope.md section 6): `(rdata = v, err = 0)`. -/
def State.reply (s : State) (v : Word) : State := { s with answer := some ⟨v, false⟩ }

/-- `refuse <FLAG>`, taking the block's exception (R161): one bit of `ERR` is set, nothing else in the block changes, the
answer is `(0, 1)`. No handler, no saved state, no mode (R168). -/
def State.refuse (s : State) (f : ErrFlag) : State := { s.raise f with answer := some ⟨0, true⟩ }

/-- An operation that ends with `answer v`. -/
def answerWith (v : Word) (s : State) : Host.Outcome State Fault Refusal := .next (s.reply v)

/-- "An operation whose rule names no answer ends with `(0, 0)`" (00_scope.md section 6). -/
def complete (s : State) : Host.Outcome State Fault Refusal := .next (s.reply 0)

/-- `if c then refuse f`, before any effect of the operation (R161). -/
def refuseIf (c : Prop) [Decidable c] (f : ErrFlag) (s : State) (go : Host.Outcome State Fault Refusal) :
    Host.Outcome State Fault Refusal :=
  if c then .next (s.refuse f) else go

/-- The common check (2) of R65: every operation but `CFG.RD` is refused `BUSY` while a reassembly runs (R163). -/
def unlessBusy (s : State) (go : Host.Outcome State Fault Refusal) : Host.Outcome State Fault Refusal :=
  refuseIf (s.rxState = .active) .busy s go

end Sys2Proof.Machine
end

