-- ==== Sys2Proof/Machine/Operands.lean ====
section
/-! DEFINITION. The operand forms: payload offsets (R40, R43), and the register file of R34 as `CFG.RD` reads it. -/

namespace Sys2Proof.Machine

/-- The offsets `first` to `last` do not all lie in the payload area `2 .. TX_SIZE - 5` of the frame (R44, R102, R103). On
naturals, no wrap (R108). -/
abbrev State.outsidePayload (s : State) (first last : Nat) : Prop :=
  first < 2 ∨ last > s.txSize.toNat - 5

/-- `reg[r]` (R34): the sixteen registers, zero above the width used; none above 0x0F. -/
def State.readReg (s : State) (r : Nat) : Option Word :=
  match r with
  | 0x00 => some s.crcPoly
  | 0x01 => some s.crcInit
  | 0x02 => some s.crcXorout
  | 0x03 => some s.crcAcc
  | 0x04 => some (s.ctrl.zeroExtend 32)
  | 0x05 => some s.status
  | 0x06 => some (s.err.zeroExtend 32)
  | 0x07 => some (s.txSize.zeroExtend 32)
  | 0x08 => some (s.rxExpect.zeroExtend 32)
  | 0x09 => some (s.rxCount.zeroExtend 32)
  | 0x0A => some s.rxIter
  | 0x0B => some (s.rxType.zeroExtend 32)
  | 0x0C => some (s.rxDecl.zeroExtend 32)
  | 0x0D => some (s.rxPlen.zeroExtend 32)
  | 0x0E => some s.inst.retryBudget
  | 0x0F => some s.ident
  | _ => none

/-- "a write while `SEALED` also sets `TX_STATE <- OPEN`" (R12 to R14, R151). -/
def State.dropSeal (s : State) : State :=
  { s with txState := if s.txState = .sealed then .opened else s.txState }

end Sys2Proof.Machine
end

