-- ==== Sys2Proof/Machine/Configuration.lean ====
section
/-! DEFINITION. The configuration and status operations (43_config.md). -/

namespace Sys2Proof.Machine

/-- `CFG.RD r` (R150): alone exempt from `BUSY`. -/
def execCfgRd (r : Nat) (s : State) : Host.Outcome State Fault Refusal :=
  match s.readReg r with
  | some v => answerWith v s
  | none => .next (s.refuse .range)

/-- `CFG.WR r, v` (R151). -/
def execCfgWr (r : Nat) (v : Word) (s : State) : Host.Outcome State Fault Refusal :=
  unlessBusy s <|
  match r with
  | 0x00 => complete { s.dropSeal with crcPoly := v }
  | 0x01 => complete { s.dropSeal with crcInit := v }
  | 0x02 => complete { s.dropSeal with crcXorout := v }
  | 0x04 => refuseIf (v.extractLsb' 1 31 ≠ 0) .range s <| complete { s with ctrl := v.extractLsb' 0 1 }
  | 0x06 => refuseIf (v.extractLsb' 5 27 ≠ 0) .range s <| complete (s.clearErr (v.extractLsb' 0 5))
  | _ => .next (s.refuse .range)

end Sys2Proof.Machine
end

