-- ==== Sys2Proof/Machine/Checksum.lean ====
section
/-! DEFINITION. The checksum functions of 40_crc.md (R80 to R84): non-reflected, bit-serial. -/

namespace Sys2Proof.Machine

/-- `crcstep` (R80): the top bit is tested and shifted out. -/
def crcStep (poly acc : Word) : Word := if acc.msb then (acc <<< 1) ^^^ poly else acc <<< 1

/-- `repeat n times: acc <- crcstep(acc)`. -/
def crcSteps (poly : Word) : Nat → Word → Word
  | 0, acc => acc
  | n + 1, acc => crcSteps poly n (crcStep poly acc)

/-- `fold_msb8` (R82): the byte enters at the top and takes 8 steps. -/
def foldMsb8 (poly acc : Word) (b : Byte) : Word := crcSteps poly 8 (acc ^^^ (b.zeroExtend 32 <<< 24))

/-- `fold_word32` (R83): the byte enters at the bottom and takes 32 steps. -/
def foldWord32 (poly acc : Word) (b : Byte) : Word := crcSteps poly 32 (acc ^^^ b.zeroExtend 32)

/-- `fold` (R81): `CRC_FOLD` selects the form. -/
def foldByte (fold : Config.Fold) (poly acc : Word) (b : Byte) : Word :=
  match fold with
  | .msb8 => foldMsb8 poly acc b
  | .word32 => foldWord32 poly acc b

/-- The bytes of a sequence folded in order (the loop of R84). -/
def foldBytes (fold : Config.Fold) (poly acc : Word) (bs : List Byte) : Word := bs.foldl (foldByte fold poly) acc

/-- What `checksum` leaves in `CRC_ACC` (R84): the accumulator before the final XOR. -/
def State.rawSum (s : State) (bs : List Byte) : Word := foldBytes s.inst.crcFold s.crcPoly s.crcInit bs

/-- The value of `checksum(buf, n)` on the bytes `buf[0 .. n)` (R84), under the registers as they stand (R92). -/
def State.checksum (s : State) (bs : List Byte) : Word := s.rawSum bs ^^^ s.crcXorout

/-- `checksum` as the hardware runs it: it leaves the raw accumulator in `CRC_ACC` (R84). -/
def State.runChecksum (s : State) (bs : List Byte) : State := { s with crcAcc := s.rawSum bs }

end Sys2Proof.Machine
end

