-- ==== Sys2Proof/Machine/Crc.lean ====
section
/-! DEFINITION. The CRC unit's operations (40_crc.md section 2). -/

namespace Sys2Proof.Machine

/-- `CRC.INIT` (R85). -/
def execCrcInit (s : State) : Host.Outcome State Fault Refusal :=
  unlessBusy s <| complete { s with crcAcc := s.crcInit }

/-- `CRC.BYTE b` (R86). -/
def execCrcByte (b : Byte) (s : State) : Host.Outcome State Fault Refusal :=
  unlessBusy s <| complete { s with crcAcc := foldByte s.inst.crcFold s.crcPoly s.crcAcc b }

/-- `CRC.READ` (R87). -/
def execCrcRead (s : State) : Host.Outcome State Fault Refusal :=
  unlessBusy s <| answerWith (s.crcAcc ^^^ s.crcXorout) s

/-- `CRC.RUNTX n` (R88). -/
def execCrcRuntx (n : Nat) (s : State) : Host.Outcome State Fault Refusal :=
  unlessBusy s <|
  refuseIf (s.txState = .empty) .seq s <|
  refuseIf (n > s.txSize.toNat) .range s <|
  answerWith (s.checksum (s.txbuf.readBytes 0 n)) (s.runChecksum (s.txbuf.readBytes 0 n))

/-- `CRC.RUNRX n` (R89). -/
def execCrcRunrx (n : Nat) (s : State) : Host.Outcome State Fault Refusal :=
  unlessBusy s <|
  refuseIf (s.rxState ≠ .done) .seq s <|
  refuseIf (n > s.rxCount.toNat) .range s <|
  answerWith (s.checksum (s.rxbuf.readBytes 0 n)) (s.runChecksum (s.rxbuf.readBytes 0 n))

end Sys2Proof.Machine
end

