-- ==== Sys2Proof/Machine/Framer.lean ====
section
/-! DEFINITION. The command framer's operations (41_framer.md). -/

namespace Sys2Proof.Machine

/-- The frame `FRM.OPEN` leaves (R101): marker, opcode, zeros up to `14 + 2k` bytes. -/
def openedFrame (mark opc : Byte) (k : Nat) : List Byte :=
  mark :: opc :: List.replicate (Config.frameBase + 2 * k - 2) 0

/-- The frame under construction is changed: bytes of the payload written, the seal broken (R102 to R104). -/
def State.putPayload (s : State) (off n v : Nat) : State :=
  { s.memWriteTx off n v with txState := .opened }

/-- The frame is started over: its size, its bytes, and the record of writes begun anew (R101; log 14). -/
def State.openFrame (s : State) (opc : Byte) (k : Nat) : State :=
  { ({ s with txWritten := [] } : State).writeTx 0 (openedFrame s.inst.cmdStartMark opc k) with
    txSize := BitVec.ofNat 5 (Config.frameBase + 2 * k)
    txState := .opened }

/-- `FRM.OPEN opc, k` (R101). -/
def execFrmOpen (opc : Byte) (k : Nat) (s : State) : Host.Outcome State Fault Refusal :=
  unlessBusy s <|
  refuseIf (k > Config.kMax) .range s <|
  complete (s.openFrame opc k)

/-- `FRM.PUT8 off, v` (R102). -/
def execFrmPut8 (off : Nat) (v : Byte) (s : State) : Host.Outcome State Fault Refusal :=
  unlessBusy s <|
  refuseIf (s.txState = .empty) .seq s <|
  refuseIf (s.outsidePayload off off) .range s <|
  complete (s.putPayload off 1 v.toNat)

/-- `FRM.PUT16U off, v` (R103). -/
def execFrmPut16u (off : Nat) (v : BitVec 16) (s : State) : Host.Outcome State Fault Refusal :=
  unlessBusy s <|
  refuseIf (s.txState = .empty) .seq s <|
  refuseIf (s.outsidePayload off (off + 1)) .range s <|
  complete (s.putPayload off 2 v.toNat)

/-- `FRM.PUT16S off, v` (R104): the bits stored are the two's-complement encoding of `v` (R62). -/
def execFrmPut16s (off : Nat) (v : Int) (s : State) : Host.Outcome State Fault Refusal :=
  unlessBusy s <|
  refuseIf (s.txState = .empty) .seq s <|
  refuseIf (s.outsidePayload off (off + 1)) .range s <|
  complete (s.putPayload off 2 (BitVec.ofInt 16 v).toNat)

/-- Where the trailer begins: `TX_SIZE - 4` (R44, R105). -/
def State.trailerAt (s : State) : Nat := s.txSize.toNat - Config.crcLen

/-- The bytes the command checksum covers: the first `TX_SIZE - 4` (R105). -/
def State.coveredBytes (s : State) : List Byte := s.txbuf.readBytes 0 s.trailerAt

/-- The frame is sealed: its checksum run and stamped into the trailer (R105). -/
def State.sealFrame (s : State) : State :=
  { (s.runChecksum s.coveredBytes).memWriteTx s.trailerAt Config.crcLen (s.checksum s.coveredBytes).toNat with
    txState := .sealed }

/-- `FRM.SEAL` (R105). -/
def execFrmSeal (s : State) : Host.Outcome State Fault Refusal :=
  unlessBusy s <|
  refuseIf (s.txState = .empty) .seq s <|
  answerWith (s.checksum s.coveredBytes) s.sealFrame

/-- `FRM.SEND` (R106): ascending offsets (R42), the whole frame at once (R24). -/
def execFrmSend (s : State) : Host.Outcome State Fault Refusal :=
  unlessBusy s <|
  refuseIf (s.txState ≠ .sealed) .seq s <|
  complete { s with txq := s.txq ++ s.txbuf.readBytes 0 s.txSize.toNat }

/-- `FRM.GET off` (R107). -/
def execFrmGet (off : Nat) (s : State) : Host.Outcome State Fault Refusal :=
  unlessBusy s <|
  refuseIf (s.txState = .empty) .seq s <|
  refuseIf (off ≥ s.txSize.toNat) .range s <|
  answerWith ((s.txbuf.read off).zeroExtend 32) s

end Sys2Proof.Machine
end

