-- ==== Sys2Proof/Machine/Reassembler.lean ====
section
/-! DEFINITION. The response reassembler's host operations (42_reassembler.md section 2). -/

namespace Sys2Proof.Machine

/-- The result registers as the failure result has them: `RX_OK = 0`, `RX_TYPE = FAIL_TYPE`, `RX_DECL = 0`,
`RX_PLEN = 0` (R121, R125). -/
def State.noResult (s : State) : State :=
  { s with rxOk := false, rxType := s.inst.failType, rxDecl := 0, rxPlen := 0 }

/-- `RX.START e` (R121): `RXQ` is not flushed. -/
def execRxStart (e : Nat) (s : State) : Host.Outcome State Fault Refusal :=
  unlessBusy s <|
  complete { s.noResult with rxExpect := BitVec.ofNat 16 e, rxCount := 0, rxIter := 0, rxState := .active }

/-- `RX.GET i` (R122). -/
def execRxGet (idx : Nat) (s : State) : Host.Outcome State Fault Refusal :=
  unlessBusy s <|
  refuseIf (s.rxState ≠ .done) .seq s <|
  refuseIf (idx ≥ s.rxPlen.toNat) .range s <|
  answerWith ((s.rxbuf.read (Config.rspHdrLen + idx)).zeroExtend 32) s

/-- `RX.RAW i` (R123). -/
def execRxRaw (idx : Nat) (s : State) : Host.Outcome State Fault Refusal :=
  unlessBusy s <|
  refuseIf (s.rxState ≠ .done) .seq s <|
  refuseIf (idx ≥ s.rxCount.toNat) .range s <|
  answerWith ((s.rxbuf.read idx).zeroExtend 32) s

end Sys2Proof.Machine
end

