-- ==== Sys2Proof/Machine/Dispatch.lean ====
section
/-! DEFINITION. Every operation to its meaning, one arm per constructor. -/

namespace Sys2Proof.Machine

def exec (i : Instr) (s : State) : Host.Outcome State Fault Refusal :=
  match i with
  -- 40_crc.md
  | .crcInit => Sys2Proof.Machine.execCrcInit s
  | .crcByte b => Sys2Proof.Machine.execCrcByte b s
  | .crcRead => Sys2Proof.Machine.execCrcRead s
  | .crcRuntx n => Sys2Proof.Machine.execCrcRuntx n s
  | .crcRunrx n => Sys2Proof.Machine.execCrcRunrx n s
  -- 41_framer.md
  | .frmOpen opc k => Sys2Proof.Machine.execFrmOpen opc k s
  | .frmPut8 off v => Sys2Proof.Machine.execFrmPut8 off v s
  | .frmPut16u off v => Sys2Proof.Machine.execFrmPut16u off v s
  | .frmPut16s off v => Sys2Proof.Machine.execFrmPut16s off v s
  | .frmSeal => Sys2Proof.Machine.execFrmSeal s
  | .frmSend => Sys2Proof.Machine.execFrmSend s
  | .frmGet off => Sys2Proof.Machine.execFrmGet off s
  -- 42_reassembler.md
  | .rxStart e => Sys2Proof.Machine.execRxStart e s
  | .rxGet idx => Sys2Proof.Machine.execRxGet idx s
  | .rxRaw idx => Sys2Proof.Machine.execRxRaw idx s
  -- 43_config.md
  | .cfgRd r => Sys2Proof.Machine.execCfgRd r s
  | .cfgWr r v => Sys2Proof.Machine.execCfgWr r v s

end Sys2Proof.Machine
end

