-- ==== Sys2Proof/Machine/Environment.lean ====
section
/-! DEFINITION. What comes from outside: the environment's two steps (R24) and the reset event (R180). -/

namespace Sys2Proof.Machine

/-- `ENV.RXPUSH bs` (R24): any bytes, any time, at the tail of `RXQ`. -/
def rxPush (bs : List Byte) (s : State) : State := { s with rxq := s.rxq ++ bs }

/-- `ENV.TXPOP` (R24): the head byte of `TXQ`; passed over when `TXQ` is empty (log 3). -/
def txPop (s : State) : State := { s with txq := s.txq.tail }

/-- Reset (R180): all block state to the values of R36 and nothing else; the queues, the parameters, the answer already
given and the steps to come are not block state (DESIGN CHOICE for the model's own fields, log 13). -/
def resetEvent (s : State) : State :=
  { State.resetFor s.inst s.txq s.rxq with answer := s.answer, pending := s.pending }

end Sys2Proof.Machine
end

