-- ==== Sys2Proof/Machine/Sequencer.lean ====
section
/-! DEFINITION. The reassembler sequencer (42_reassembler.md section 3): `RX.POLL`, `RX.COMPLETE`, and which is enabled. -/

namespace Sys2Proof.Machine

/-- The target count `RX_EXPECT + 8`, a natural, never wrapped (R20, R130). -/
def State.target (s : State) : Nat := s.rxExpect.toNat + Config.rspOverhead

/-- `RX.POLL` is enabled (R124). -/
def State.pollEnabled (s : State) : Bool :=
  s.rxState = .active && decide (s.rxCount.toNat < s.target) && decide (s.rxIter.toNat < s.inst.retryBudget.toNat)

/-- `RX.COMPLETE` is enabled: while `ACTIVE`, "exactly when `RX.POLL` is not" (R125; DEDUCED where `RX_ITER` is past the
budget, which no run reaches, log 10). -/
def State.completeEnabled (s : State) : Bool := s.rxState = .active && !s.pollEnabled

/-- How many bytes one poll takes: all there are, up to the room left in `RXBUF` (R124). -/
def State.pollTake (s : State) : Nat := min s.rxq.length (Config.rxbufSize - s.rxCount.toNat)

/-- `RX.POLL` (R124). -/
def poll (s : State) : State :=
  { s with
    rxbuf := s.rxbuf.writeBytes s.rxCount.toNat (s.rxq.take s.pollTake)
    rxq := s.rxq.drop s.pollTake
    rxCount := s.rxCount + BitVec.ofNat 17 s.pollTake
    rxIter := s.rxIter + 1 }

/-- The four validation checks of R125, in its order. -/
def State.responseValid (s : State) : Bool :=
  s.rxCount.toNat != 0 && s.rxbuf.read 0 == s.inst.rspStartMark &&
    decide (Config.rspHdrLen ≤ s.rxCount.toNat) && decide (Config.rspOverhead ≤ s.rxCount.toNat)

/-- The declared length `L = MemRead(RXBUF, 2, 2)` (R125). -/
def State.declared (s : State) : Nat := s.rxbuf.memRead 2 2

/-- The bytes the response checksum covers: header and payload, `4 + L` of them (R127). -/
def State.responseCovered (s : State) : List Byte := s.rxbuf.readBytes 0 (Config.rspHdrLen + s.declared)

/-- All `L + 8` bytes are there, so `crc_ok` computes a checksum (R127, first line). -/
def State.trailerPresent (s : State) : Bool := decide (s.declared + Config.rspOverhead ≤ s.rxCount.toNat)

/-- The comparison of `crc_ok` (R127): the trailer, little-endian, at its declared place. -/
def State.trailerMatches (s : State) : Bool :=
  (s.checksum s.responseCovered).toNat == s.rxbuf.memRead (Config.rspHdrLen + s.declared) Config.crcLen

/-- The success result of R125: type, declared length, payload length. -/
def State.acceptResponse (s : State) : State :=
  { s with
    rxOk := true
    rxType := s.rxbuf.read 1
    rxDecl := BitVec.ofNat 16 s.declared
    rxPlen := BitVec.ofNat 16 (min s.declared (s.rxCount.toNat - Config.rspOverhead))
    rxState := .done }

/-- The failure result of R125. -/
def State.failResponse (s : State) : State := { s.noResult with rxState := .done }

/-- The outcome with the checksum looked at (R125 with `CTRL.RX_CRC_EN = 1`, R127, R171). -/
def State.verifyResponse (s : State) : State :=
  if s.trailerPresent then
    if s.trailerMatches then (s.runChecksum s.responseCovered).acceptResponse
    else ((s.runChecksum s.responseCovered).raise .rxcrc).failResponse
  else (s.raise .rxcrc).failResponse

/-- `RX.COMPLETE` (R125). -/
def finish (s : State) : State :=
  if s.responseValid then
    if s.rxCrcEn then s.verifyResponse else s.acceptResponse
  else s.failResponse

/-- The sequencer's step: the enabled one, or none (R124, R125; passed over when nothing is enabled, log 3). -/
def sequencerStep (s : State) : State :=
  if s.pollEnabled then poll s else if s.completeEnabled then finish s else s

end Sys2Proof.Machine
end

