-- ==== Sys2Proof/Machine/Events.lean ====
section
/-! DEFINITION. One step of one agent (R9), and the step taken when nothing is scheduled. -/

namespace Sys2Proof.Machine

/-- The host's step (R60): the word is decoded; an illegal one is refused `ILLEGAL` before every other check (R64, R162),
a legal one is executed whole. -/
def hostWord (w : OpWord) (s : State) : Host.Outcome State Fault Refusal :=
  match decode w with
  | .ok i => exec i s
  | .error _ => .next (s.refuse .illegal)

/-- The step an event stands for, taken whole (R9). -/
def takeEvent (e : Event) (s : State) : Host.Outcome State Fault Refusal :=
  match e with
  | .host w => hostWord w s
  | .sequencer => .next (sequencerStep s)
  | .rxPush bs => .next (rxPush bs s)
  | .txPop => .next (txPop s)
  | .reset => .next (resetEvent s)

/-- With no step scheduled the sequencer steps if it can (the weak fairness of R188); otherwise the block waits, nothing
changed (R182). DESIGN CHOICE, log 4. -/
def unscheduledStep (s : State) : Host.Outcome State Fault Refusal := .next (sequencerStep s)

/-- The bits of a table row as the host's next operation word (R60: one 64-bit value, no byte order; log 9). -/
def tableWordEvent (nbits w : Nat) : Event := .host (BitVec.ofNat 64 (w % 2 ^ nbits))

end Sys2Proof.Machine
end

