-- ==== Sys2Proof/Machine/Step.lean ====
section
/-! DEFINITION. One step of the machine: the next scheduled step of an agent (R9, R49), or the one taken when none is. -/

namespace Sys2Proof.Machine

/-- One atomic step (R9). The schedule is the state's own list `pending` (log 2). -/
def step (s : State) : Host.Outcome State Fault Refusal :=
  match s.pending with
  | [] => unscheduledStep s
  | e :: rest => takeEvent e { s with pending := rest }

/-- `s` with the table's word as the host's next operation word, before whatever is scheduled (log 9). -/
def State.withFetchWord (s : State) (nbits w : Nat) : State :=
  { s with pending := tableWordEvent nbits w :: s.pending }

end Sys2Proof.Machine
end

