-- ==== Sys2Proof/Safety.lean ====
section
/-! DEFINITION. What counts as a good state and as the end of a run: the invariants of R35, quiescence (R182). -/

namespace Sys2Proof.Machine

/-- The bytes of the trailer are the checksum of the bytes before it, under the CRC registers as they stand (R35 (c)). -/
abbrev State.trailerValid (s : State) : Prop :=
  s.txbuf.memRead s.trailerAt Config.crcLen = (s.checksum s.coveredBytes).toNat

/-- The invariants of R35, with what the model adds: the parameters are legal (R7), both buffers are in canonical form
and inside their sizes (R40). -/
structure State.Inv (s : State) : Prop where
  /-- R7's constraints. -/
  paramsLegal : s.inst.legal = true
  /-- `TXBUF` is canonical. -/
  txbufWf : s.txbuf.wf = true
  /-- `TXBUF` has offsets 0 to 21. -/
  txbufBelow : s.txbuf.below Config.txbufSize = true
  /-- `RXBUF` is canonical. -/
  rxbufWf : s.rxbuf.wf = true
  /-- `RXBUF` has offsets 0 to 65542. -/
  rxbufBelow : s.rxbuf.below Config.rxbufSize = true
  /-- R35 (a), first half. -/
  emptyIff : s.txState = .empty ↔ s.txSize = 0
  /-- R35 (a), second half. -/
  sizeLegal : s.txState ≠ .empty → s.txSize.toNat ∈ [14, 16, 18, 20, 22]
  /-- R35 (b), first half. -/
  markerPlaced : s.txState ≠ .empty → s.txbuf.read 0 = s.inst.cmdStartMark
  /-- R35 (b), second half: every byte of the frame has been written since the last `FRM.OPEN` (log 14). -/
  frameWritten : s.txState ≠ .empty → ∀ a, a < s.txSize.toNat → a ∈ s.txWritten
  /-- R35 (c). -/
  sealHolds : s.txState = .sealed → s.trailerValid
  /-- R35 (d). -/
  countFits : s.rxCount.toNat ≤ Config.rxbufSize
  /-- R35 (d). -/
  iterFits : s.rxIter.toNat ≤ s.inst.retryBudget.toNat
  /-- R35 (e). -/
  resultHolds : s.rxState = .done → s.rxOk = true →
    8 ≤ s.rxCount.toNat ∧ s.rxbuf.read 0 = s.inst.rspStartMark ∧ s.rxType = s.rxbuf.read 1 ∧
    s.rxDecl.toNat = s.rxbuf.memRead 2 2 ∧ s.rxPlen.toNat = min s.rxDecl.toNat (s.rxCount.toNat - 8)
  /-- R35 (f). -/
  failureShown : s.rxOk = false → s.rxType = s.inst.failType ∧ s.rxDecl = 0 ∧ s.rxPlen = 0
  /-- R35 (g). -/
  okOnlyDone : s.rxOk = true → s.rxState = .done

/-- The block after reset with a schedule of steps before it: where every run begins (R36, R9). -/
def State.start (inst : Config.Params) (txq rxq : List Byte) (schedule : List Event) : State :=
  { State.resetFor inst txq rxq with pending := schedule }

/-- The host's step. -/
def Event.isHost : Event → Bool
  | .host _ => true
  | .sequencer | .rxPush _ | .txPop | .reset => false

/-- A run is over (R182), "stated over the block and the host only": `RX_STATE ≠ ACTIVE`, so that no sequencer step is
enabled, and the host issues no further operation. The environment may still step. -/
abbrev State.quiescent (s : State) : Prop := s.rxState ≠ .active ∧ ∀ e ∈ s.pending, e.isHost = false

end Sys2Proof.Machine
end

