-- ==== Sys2Proof/Certificates/Slice0/Obligations.lean ====
section
/-! DEFINITION. The statements for the provers. In them `s.err ||| 1`, `2`, `4`, `8`, `16` set the flags ILLEGAL, BUSY,
SEQ, RANGE, RXCRC (R18), and a buffer's first `n` bytes are `(List.range n).map s.txbuf.read`. `t.txWritten` is the model's
own record (log 14): a statement that names it beside what a rule gives leaves it open, and `FrameWritesAreRecorded` says
what it holds. -/

open Sys2Proof Sys2Proof.Machine

/-! ## Operation words -/

/-- No operand bit is lost: the word of a well-formed operation decodes to it. -/
def Obligations.DecodeInvertsEncode : Prop :=
  ∀ i : Instr, i.wellFormed = true → decode (encode i) = .ok i

/-- One word per operation instance (decision D4): a legal word is the word of what it decodes to. -/
def Obligations.EncodeInvertsDecode : Prop :=
  ∀ (w : OpWord) (i : Instr), decode w = .ok i → i.wellFormed = true ∧ encode i = w

/-- The legal words are exactly the instances of the 17 rows of the opcode table, each word of its own operation's row. -/
def Obligations.LegalWordsAreTableInstances : Prop :=
  ∀ w : OpWord,
    ((∃ i, decode w = .ok i) ↔ ∃ r ∈ opcodeTable, w &&& r.mask = r.pattern) ∧
    ∀ i, decode w = .ok i → w &&& i.tableRow.mask = i.tableRow.pattern

/-- The eight example words of R69 decode to the operations written beside them. -/
def Obligations.ExampleWordsDecode : Prop :=
  decode 0x100D000000000000 = .ok (.frmOpen 0x0D 0) ∧
  decode 0x1102000100000000 = .ok (.frmPut8 2 1) ∧
  decode 0x1206009F00000000 = .ok (.frmPut16u 6 159) ∧
  decode 0x1302FFFE00000000 = .ok (.frmPut16s 2 (-2)) ∧
  decode 0x1400000000000000 = .ok .frmSeal ∧
  decode 0x2000965000000000 = .ok (.rxStart 38480) ∧
  decode 0x220000000000000C = .ok (.rxRaw 12) ∧
  decode 0x31020000FFFFFFFF = .ok (.cfgWr 2 0xFFFFFFFF)

/-! ## Steps and refusals -/

/-- The host's step executes the decoded operation whole, on the state less that step of the schedule. -/
def Obligations.StepRunsDecodedOperation : Prop :=
  ∀ (s : State) (w : OpWord) (rest : List Event) (i : Instr),
    s.pending = .host w :: rest → decode w = .ok i → step s = exec i { s with pending := rest }

/-- R64, R162: a word that is an instance of no row is refused `ILLEGAL`, whatever the state. -/
def Obligations.IllegalWordsAreRefused : Prop :=
  ∀ (s : State) (w : OpWord) (rest : List Event),
    s.pending = .host w :: rest → (∀ r ∈ opcodeTable, w &&& r.mask ≠ r.pattern) →
    step s = .next { s with pending := rest, err := s.err ||| 1, answer := some ⟨0, true⟩ }

/-- No operation and no step faults or is left without meaning (93_implementation_defined.md, summary). -/
def Obligations.EveryStepGoesOn : Prop :=
  (∀ (i : Instr) (s : State), ∃ t, exec i s = .next t) ∧ ∀ s : State, ∃ t, step s = .next t

/-- R163: while a reassembly runs every operation but `CFG.RD` is refused `BUSY`. -/
def Obligations.BusyRefusesAllButCfgRd : Prop :=
  ∀ (i : Instr) (s : State), s.rxState = .active → (∀ r, i ≠ .cfgRd r) →
    exec i s = .next { s with err := s.err ||| 2, answer := some ⟨0, true⟩ }

/-- R161: a refused word sets one flag and changes nothing else; the answer is `(0, 1)`. -/
def Obligations.RefusalSetsOneFlagOnly : Prop :=
  ∀ (s t : State) (w : OpWord) (rest : List Event) (v : Word),
    s.pending = .host w :: rest → step s = .next t → t.answer = some ⟨v, true⟩ →
    v = 0 ∧ ∃ f ∈ [1#5, 2#5, 4#5, 8#5],
      t = { s with pending := rest, err := s.err ||| f, answer := some ⟨0, true⟩ }

/-- R164: the complete list of what raises `SEQ`. What is listed raises it, and, where the flag was clear so that raising
it shows, what raises it is listed. -/
def Obligations.SeqRaisedExactlyWhereListed : Prop :=
  ∀ (i : Instr) (s : State) (listed : Prop),
    (listed ↔ s.rxState ≠ .active ∧
      match i with
      | .crcRuntx _ | .frmPut8 _ _ | .frmPut16u _ _ | .frmPut16s _ _ | .frmSeal | .frmGet _ => s.txState = .empty
      | .frmSend => s.txState ≠ .sealed
      | .crcRunrx _ | .rxGet _ | .rxRaw _ => s.rxState ≠ .done
      | .crcInit | .crcByte _ | .crcRead | .frmOpen _ _ | .rxStart _ | .cfgRd _ | .cfgWr _ _ => False) →
    (listed → exec i s = .next { s with err := s.err ||| 4, answer := some ⟨0, true⟩ }) ∧
    (s.err &&& 4 = 0 → exec i s = .next { s with err := s.err ||| 4, answer := some ⟨0, true⟩ } → listed)

/-- R165: the complete list of what raises `RANGE`, after the `BUSY` and `SEQ` checks of R166; both ways as above. -/
def Obligations.RangeRaisedExactlyWhereListed : Prop :=
  ∀ (i : Instr) (s : State) (listed : Prop),
    (listed ↔
      match i with
      | .frmOpen _ k => s.rxState ≠ .active ∧ k > 4
      | .frmPut8 off _ => s.rxState ≠ .active ∧ s.txState ≠ .empty ∧ (off < 2 ∨ off + 5 > s.txSize.toNat)
      | .frmPut16u off _ => s.rxState ≠ .active ∧ s.txState ≠ .empty ∧ (off < 2 ∨ off + 1 + 5 > s.txSize.toNat)
      | .frmPut16s off _ => s.rxState ≠ .active ∧ s.txState ≠ .empty ∧ (off < 2 ∨ off + 1 + 5 > s.txSize.toNat)
      | .frmGet off => s.rxState ≠ .active ∧ s.txState ≠ .empty ∧ off ≥ s.txSize.toNat
      | .crcRuntx n => s.rxState ≠ .active ∧ s.txState ≠ .empty ∧ n > s.txSize.toNat
      | .crcRunrx n => s.rxState = .done ∧ n > s.rxCount.toNat
      | .rxGet j => s.rxState = .done ∧ j ≥ s.rxPlen.toNat
      | .rxRaw j => s.rxState = .done ∧ j ≥ s.rxCount.toNat
      | .cfgRd r => r > 0x0F
      | .cfgWr r v => s.rxState ≠ .active ∧
          (r ∉ [0x00, 0x01, 0x02, 0x04, 0x06] ∨ (r = 0x04 ∧ 2 ≤ v.toNat) ∨ (r = 0x06 ∧ 32 ≤ v.toNat))
      | .crcInit | .crcByte _ | .crcRead | .frmSeal | .frmSend | .rxStart _ => False) →
    (listed → exec i s = .next { s with err := s.err ||| 8, answer := some ⟨0, true⟩ }) ∧
    (s.err &&& 8 = 0 → exec i s = .next { s with err := s.err ||| 8, answer := some ⟨0, true⟩ } → listed)

/-- R18, R169: nothing but `CFG.WR 0x06` and reset clears a flag. -/
def Obligations.ErrFlagsAreSticky : Prop :=
  ∀ s t : State, step s = .next t → s.pending.head? ≠ some .reset →
    (∀ w v, s.pending.head? = some (.host w) → decode w ≠ .ok (.cfgWr 0x06 v)) →
    s.err &&& t.err = s.err

/-- No operation sets or clears a flag but by its refusal, `CFG.WR 0x06` apart ("Flags: none" of each operation's rule). -/
def Obligations.AcceptedOperationsLeaveErr : Prop :=
  ∀ (i : Instr) (s t : State) (v : Word), (∀ u, i ≠ .cfgWr 0x06 u) →
    exec i s = .next t → t.answer = some ⟨v, false⟩ → t.err = s.err

/-- R47: the five reading operations change no state; a refused one sets its flag. -/
def Obligations.ReadsHaveNoSideEffects : Prop :=
  ∀ (i : Instr) (s t : State),
    (i = .crcRead ∨ (∃ a, i = .frmGet a) ∨ (∃ j, i = .rxGet j) ∨ (∃ j, i = .rxRaw j) ∨ ∃ r, i = .cfgRd r) →
    exec i s = .next t →
    t = { s with answer := t.answer } ∨
    ∃ f ∈ [2#5, 4#5, 8#5], t = { s with err := s.err ||| f, answer := some ⟨0, true⟩ }

/-- While a reassembly runs, no operation word touches anything but the flags and the answer (R163, R175). -/
def Obligations.HostCannotDisturbActiveReassembly : Prop :=
  ∀ (s t : State) (w : OpWord) (rest : List Event),
    s.rxState = .active → s.pending = .host w :: rest → step s = .next t →
    t = { s with pending := rest, err := t.err, answer := t.answer }

/-! ## Reset and invariants -/

/-- R180 with the values of R36: the reset event, in any state. -/
def Obligations.ResetEventLoadsResetValues : Prop :=
  ∀ (s : State) (rest : List Event), s.pending = .reset :: rest → ∃ t, step s = .next t ∧
    t.crcPoly = 0x04C11DB7 ∧ t.crcInit = 0xFFFFFFFF ∧ t.crcXorout = 0 ∧ t.crcAcc = 0xFFFFFFFF ∧
    t.ctrl = 0 ∧ t.err = 0 ∧ t.txState = .empty ∧ t.txSize = 0 ∧ t.rxState = .idle ∧ t.rxOk = false ∧
    t.rxExpect = 0 ∧ t.rxCount = 0 ∧ t.rxIter = 0 ∧ t.rxType = t.inst.failType ∧ t.rxDecl = 0 ∧ t.rxPlen = 0 ∧
    t.txq = s.txq ∧ t.rxq = s.rxq ∧ t.inst = s.inst ∧ t.pending = rest

/-- R36: what the machine holds right after reset. -/
def Obligations.ResetStateHoldsResetValues : Prop :=
  State.reset.crcPoly = 0x04C11DB7 ∧ State.reset.crcInit = 0xFFFFFFFF ∧ State.reset.crcXorout = 0 ∧
  State.reset.crcAcc = 0xFFFFFFFF ∧ State.reset.ctrl = 0 ∧ State.reset.err = 0 ∧ State.reset.txState = .empty ∧
  State.reset.txSize = 0 ∧ State.reset.rxState = .idle ∧ State.reset.rxOk = false ∧ State.reset.rxExpect = 0 ∧
  State.reset.rxCount = 0 ∧ State.reset.rxIter = 0 ∧ State.reset.rxType = State.reset.inst.failType ∧
  State.reset.rxDecl = 0 ∧ State.reset.rxPlen = 0

/-- The invariants hold at reset: of the block in hand, and of any legal block with any queues and any schedule. -/
def Obligations.ResetMeetsInvariant : Prop :=
  State.reset.Inv ∧
  ∀ (p : Config.Params) (txq rxq : List Byte) (schedule : List Event), p.legal = true →
    (State.start p txq rxq schedule).Inv

/-- Every step of every agent keeps the invariants of R35. -/
def Obligations.StepKeepsInvariant : Prop :=
  ∀ s t : State, s.Inv → step s = .next t → t.Inv

/-- The invariants of R35 hold in every reachable state, whatever the schedule, the queues and the parameters. -/
def Obligations.ReachableStatesMeetInvariant : Prop :=
  ∀ (p : Config.Params) (txq rxq : List Byte) (schedule : List Event) (n : Nat) (t : State), p.legal = true →
    Host.Core.run Sys2Proof.core n (State.start p txq rxq schedule) = .next t → t.Inv

/-- R7: no step changes the OPEN parameters. -/
def Obligations.ParametersNeverChange : Prop :=
  ∀ s t : State, step s = .next t → t.inst = s.inst

/-- R26, R27: `EMPTY` and `IDLE` are never re-entered, reset apart. -/
def Obligations.EmptyAndIdleAreNeverReentered : Prop :=
  ∀ s t : State, step s = .next t → s.pending.head? ≠ some .reset →
    (s.txState ≠ .empty → t.txState ≠ .empty) ∧ (s.rxState ≠ .idle → t.rxState ≠ .idle)

/-- R27, R180: `ACTIVE` is left only by `RX.COMPLETE`, to `DONE`, or by reset, to `IDLE`. -/
def Obligations.ActiveLeftOnlyByCompletionOrReset : Prop :=
  ∀ s t : State, step s = .next t → s.rxState = .active → t.rxState ≠ .active →
    (t.rxState = .done ∧ s.completeEnabled = true ∧ (s.pending = [] ∨ s.pending.head? = some .sequencer)) ∨
    (t.rxState = .idle ∧ s.pending.head? = some .reset)

/-- The model's choices of log 3 and log 4 (R182): where nothing is enabled nothing happens. -/
def Obligations.NothingEnabledChangesNothing : Prop :=
  (∀ s : State, s.rxState ≠ .active → s.pending = [] → step s = .next s) ∧
  (∀ (s : State) (rest : List Event), s.rxState ≠ .active → s.pending = .sequencer :: rest →
    step s = .next { s with pending := rest }) ∧
  ∀ (s : State) (rest : List Event), s.txq = [] → s.pending = .txPop :: rest → step s = .next { s with pending := rest }

/-- R182: when a run is over, said of block and host only. `ACTIVE` is never final, exactly one sequencer step is enabled
then; in a quiescent state none is; and once quiescent the run stays so, whatever the environment and the reset input still
do, and, but for reset, nothing but the queues and the schedule moves. That a scheduled step which is not enabled, and an
empty schedule, change nothing is the model's choice (logs 3 and 4). -/
def Obligations.QuiescenceEndsARun : Prop :=
  (∀ s : State, s.quiescent ↔ s.rxState ≠ .active ∧ ∀ w, Event.host w ∉ s.pending) ∧
  (∀ s : State, s.rxState = .active →
    s.rxIter.toNat ≤ s.inst.retryBudget.toNat → s.completeEnabled = !s.pollEnabled ∧ ¬s.quiescent) ∧
  (∀ s : State, s.quiescent → s.pollEnabled = false ∧ s.completeEnabled = false) ∧
  ∀ (n : Nat) (s t : State), s.quiescent → Host.Core.run Sys2Proof.core n s = .next t →
    t.quiescent ∧
    (Event.reset ∉ s.pending → t = { s with pending := t.pending, txq := t.txq, rxq := t.rxq })

/-! ## CRC unit -/

/-- R80 to R84: the checksum functions, written out bit step by bit step, with the values that R82 and R83 give. -/
def Obligations.ChecksumFunctionsFollowTheirRules : Prop :=
  (∀ poly acc : Word, crcStep poly acc = if acc.getLsbD 31 = true then (acc <<< 1) ^^^ poly else acc <<< 1) ∧
  (∀ (poly acc : Word) (n : Nat), crcSteps poly 0 acc = acc ∧
    crcSteps poly (n + 1) acc =
      crcSteps poly n (if acc.getLsbD 31 = true then (acc <<< 1) ^^^ poly else acc <<< 1)) ∧
  (∀ (poly acc : Word) (b : Byte),
    foldByte .msb8 poly acc b = crcSteps poly 8 (acc ^^^ (b.zeroExtend 32 <<< 24)) ∧
    foldByte .word32 poly acc b = crcSteps poly 32 (acc ^^^ b.zeroExtend 32)) ∧
  (∀ (f : Config.Fold) (poly acc : Word) (b : Byte) (bs : List Byte), foldBytes f poly acc [] = acc ∧
    foldBytes f poly acc (b :: bs) = foldBytes f poly (foldByte f poly acc b) bs) ∧
  (∀ (s : State) (bs : List Byte),
    s.checksum bs = foldBytes s.inst.crcFold s.crcPoly s.crcInit bs ^^^ s.crcXorout ∧
    s.runChecksum bs = { s with crcAcc := foldBytes s.inst.crcFold s.crcPoly s.crcInit bs }) ∧
  foldByte .msb8 0x04C11DB7 0xFFFFFFFF 0x01 = 0x4AC9A203 ∧
  foldByte .word32 0x04C11DB7 0xFFFFFFFF 0x01 = 0xC3C5C0CC ∧
  foldBytes .msb8 0x04C11DB7 0xFFFFFFFF [0x31, 0x32, 0x33, 0x34, 0x35, 0x36, 0x37, 0x38, 0x39] = 0x0376E6E7

/-- R85. -/
def Obligations.CrcInitLoadsSeed : Prop :=
  decode 0x0100000000000000 = .ok .crcInit ∧
  ∀ s : State, s.rxState ≠ .active →
    exec .crcInit s = .next { s with crcAcc := s.crcInit, answer := some ⟨0, false⟩ }

/-- R86, the bit steps of R80 written out. -/
def Obligations.CrcByteFoldsOneByte : Prop :=
  (∀ (poly acc : Word) (n : Nat), crcSteps poly 0 acc = acc ∧
    crcSteps poly (n + 1) acc =
      crcSteps poly n (if acc.getLsbD 31 = true then (acc <<< 1) ^^^ poly else acc <<< 1)) ∧
  (∀ b : Byte, decode (0x02#8 ++ 0#8 ++ 0#8 ++ b ++ 0#32) = .ok (.crcByte b)) ∧
  ∀ (b : Byte) (s : State), s.rxState ≠ .active →
    exec (.crcByte b) s = .next { s with
      crcAcc := match s.inst.crcFold with
        | .msb8 => crcSteps s.crcPoly 8 (s.crcAcc ^^^ (b.zeroExtend 32 <<< 24))
        | .word32 => crcSteps s.crcPoly 32 (s.crcAcc ^^^ b.zeroExtend 32)
      answer := some ⟨0, false⟩ }

/-- R87. -/
def Obligations.CrcReadAnswersChecksum : Prop :=
  decode 0x0300000000000000 = .ok .crcRead ∧
  ∀ s : State, s.rxState ≠ .active →
    exec .crcRead s = .next { s with answer := some ⟨s.crcAcc ^^^ s.crcXorout, false⟩ }

/-- R88: the checksum of the first `n` bytes of the transmit buffer. -/
def Obligations.CrcRuntxAnswersPrefixChecksum : Prop :=
  (∀ n : BitVec 16, decode (0x04#8 ++ 0#8 ++ n ++ 0#32) = .ok (.crcRuntx n.toNat)) ∧
  ∀ (n : Nat) (s : State), s.rxState ≠ .active →
    (s.txState = .empty →
      exec (.crcRuntx n) s = .next { s with err := s.err ||| 4, answer := some ⟨0, true⟩ }) ∧
    (s.txState ≠ .empty → n > s.txSize.toNat →
      exec (.crcRuntx n) s = .next { s with err := s.err ||| 8, answer := some ⟨0, true⟩ }) ∧
    (s.txState ≠ .empty → n ≤ s.txSize.toNat →
      exec (.crcRuntx n) s = .next { s with
        crcAcc := foldBytes s.inst.crcFold s.crcPoly s.crcInit ((List.range n).map s.txbuf.read)
        answer := some ⟨foldBytes s.inst.crcFold s.crcPoly s.crcInit ((List.range n).map s.txbuf.read)
          ^^^ s.crcXorout, false⟩ })

/-- R89: the checksum of the first `n` bytes gathered. -/
def Obligations.CrcRunrxAnswersPrefixChecksum : Prop :=
  (∀ n : BitVec 32, decode (0x05#8 ++ 0#8 ++ 0#16 ++ n) = .ok (.crcRunrx n.toNat)) ∧
  ∀ (n : Nat) (s : State),
    (s.rxState = .idle →
      exec (.crcRunrx n) s = .next { s with err := s.err ||| 4, answer := some ⟨0, true⟩ }) ∧
    (s.rxState = .done → n > s.rxCount.toNat →
      exec (.crcRunrx n) s = .next { s with err := s.err ||| 8, answer := some ⟨0, true⟩ }) ∧
    (s.rxState = .done → n ≤ s.rxCount.toNat →
      exec (.crcRunrx n) s = .next { s with
        crcAcc := foldBytes s.inst.crcFold s.crcPoly s.crcInit ((List.range n).map s.rxbuf.read)
        answer := some ⟨foldBytes s.inst.crcFold s.crcPoly s.crcInit ((List.range n).map s.rxbuf.read)
          ^^^ s.crcXorout, false⟩ })

/-- The law of R83: one 32-step fold is four 8-step folds of `0x00, 0x00, 0x00, b`. -/
def Obligations.Word32FoldIsFourMsb8Folds : Prop :=
  ∀ (poly acc : Word) (b : Byte),
    foldWord32 poly acc b = foldMsb8 poly (foldMsb8 poly (foldMsb8 poly (foldMsb8 poly acc 0) 0) 0) b

/-- The affine law of R90 (the form that 90_conflicts.md C10 settles). -/
def Obligations.ChecksumIsAffine : Prop :=
  ∀ (s : State) (x y : List Byte), x.length = y.length →
    s.checksum x ^^^ s.checksum y ^^^ s.checksum (List.replicate x.length 0) =
      s.checksum (List.zipWith (fun a b => a ^^^ b) x y)

/-- R90, last sentence: with polynomial 0 every step is a plain shift. -/
def Obligations.ZeroPolynomialShifts : Prop :=
  ∀ (acc : Word) (b : Byte),
    foldMsb8 0 acc b = (acc ^^^ (b.zeroExtend 32 <<< 24)) <<< 8 ∧ foldWord32 0 acc b = 0

/-- The law of R87: a checksum streamed byte by byte is the checksum of R84 over those bytes. -/
def Obligations.StreamedChecksumIsChecksum : Prop :=
  ∀ (s : State) (bs : List Byte), s.rxState ≠ .active →
    s.pending = .host (encode .crcInit) ::
      (bs.map fun b => Event.host (encode (.crcByte b))) ++ [.host (encode .crcRead)] →
    Host.Core.run Sys2Proof.core (bs.length + 2) s = .next { s with
      pending := []
      crcAcc := s.rawSum bs
      answer := some ⟨s.checksum bs, false⟩ }

/-! ## Framer -/

/-- R101. -/
def Obligations.FrmOpenStartsZeroFilledFrame : Prop :=
  (∀ opc k : Byte, decode (0x10#8 ++ opc ++ 0#8 ++ k ++ 0#32) = .ok (.frmOpen opc k.toNat)) ∧
  ∀ (opc : Byte) (k : Nat) (s : State), s.rxState ≠ .active →
    (k > 4 → exec (.frmOpen opc k) s = .next { s with err := s.err ||| 8, answer := some ⟨0, true⟩ }) ∧
    (k ≤ 4 → ∃ t, exec (.frmOpen opc k) s = .next t ∧
      t = { s with
        txSize := t.txSize, txbuf := t.txbuf, txWritten := t.txWritten, txState := .opened
        answer := some ⟨0, false⟩ } ∧
      t.txSize.toNat = 14 + 2 * k ∧
      t.txbuf.read 0 = s.inst.cmdStartMark ∧ t.txbuf.read 1 = opc ∧
      (∀ a, 2 ≤ a → a < 14 + 2 * k → t.txbuf.read a = 0) ∧
      ∀ a, 14 + 2 * k ≤ a → t.txbuf.read a = s.txbuf.read a)

/-- R102. -/
def Obligations.FrmPut8WritesOneByte : Prop :=
  (∀ off v : Byte, decode (0x11#8 ++ off ++ 0#8 ++ v ++ 0#32) = .ok (.frmPut8 off.toNat v)) ∧
  ∀ (off : Nat) (v : Byte) (s : State), s.rxState ≠ .active →
    (s.txState = .empty →
      exec (.frmPut8 off v) s = .next { s with err := s.err ||| 4, answer := some ⟨0, true⟩ }) ∧
    (s.txState ≠ .empty → (off < 2 ∨ off + 5 > s.txSize.toNat) →
      exec (.frmPut8 off v) s = .next { s with err := s.err ||| 8, answer := some ⟨0, true⟩ }) ∧
    (s.txState ≠ .empty → 2 ≤ off → off + 5 ≤ s.txSize.toNat →
      ∃ t, exec (.frmPut8 off v) s = .next t ∧
        t = { s with
          txbuf := t.txbuf, txWritten := t.txWritten, txState := .opened, answer := some ⟨0, false⟩ } ∧
        t.txbuf.read off = v ∧ ∀ a, a ≠ off → t.txbuf.read a = s.txbuf.read a)

/-- R103. -/
def Obligations.FrmPut16uWritesLittleEndian : Prop :=
  (∀ (off : Byte) (v : BitVec 16), decode (0x12#8 ++ off ++ v ++ 0#32) = .ok (.frmPut16u off.toNat v)) ∧
  ∀ (off : Nat) (v : BitVec 16) (s : State), s.rxState ≠ .active →
    (s.txState = .empty →
      exec (.frmPut16u off v) s = .next { s with err := s.err ||| 4, answer := some ⟨0, true⟩ }) ∧
    (s.txState ≠ .empty → (off < 2 ∨ off + 1 + 5 > s.txSize.toNat) →
      exec (.frmPut16u off v) s = .next { s with err := s.err ||| 8, answer := some ⟨0, true⟩ }) ∧
    (s.txState ≠ .empty → 2 ≤ off → off + 1 + 5 ≤ s.txSize.toNat →
      ∃ t, exec (.frmPut16u off v) s = .next t ∧
        t = { s with
          txbuf := t.txbuf, txWritten := t.txWritten, txState := .opened, answer := some ⟨0, false⟩ } ∧
        t.txbuf.read off = v.extractLsb' 0 8 ∧ t.txbuf.read (off + 1) = v.extractLsb' 8 8 ∧
        ∀ a, a ≠ off → a ≠ off + 1 → t.txbuf.read a = s.txbuf.read a)

/-- R104: the bytes of the two's-complement encoding, low byte first; the bits are those `FRM.PUT16U` stores. -/
def Obligations.FrmPut16sWritesTwosComplement : Prop :=
  (∀ (off : Byte) (h : BitVec 16), decode (0x13#8 ++ off ++ h ++ 0#32) = .ok (.frmPut16s off.toNat h.toInt)) ∧
  ∀ (off : Nat) (v : Int) (s : State), s.rxState ≠ .active → -32768 ≤ v → v ≤ 32767 →
    (s.txState = .empty →
      exec (.frmPut16s off v) s = .next { s with err := s.err ||| 4, answer := some ⟨0, true⟩ }) ∧
    (s.txState ≠ .empty → (off < 2 ∨ off + 1 + 5 > s.txSize.toNat) →
      exec (.frmPut16s off v) s = .next { s with err := s.err ||| 8, answer := some ⟨0, true⟩ }) ∧
    (s.txState ≠ .empty → 2 ≤ off → off + 1 + 5 ≤ s.txSize.toNat →
      ∃ t, exec (.frmPut16s off v) s = .next t ∧
        t = { s with
          txbuf := t.txbuf, txWritten := t.txWritten, txState := .opened, answer := some ⟨0, false⟩ } ∧
        ((t.txbuf.read off).toNat : Int) + 256 * ((t.txbuf.read (off + 1)).toNat : Int) = v % 65536 ∧
        ∀ a, a ≠ off → a ≠ off + 1 → t.txbuf.read a = s.txbuf.read a) ∧
    exec (.frmPut16s off v) s = exec (.frmPut16u off (BitVec.ofInt 16 v)) s

/-- R105: the checksum over `TX_SIZE - 4` bytes, stamped little-endian into the last four. -/
def Obligations.FrmSealStampsChecksum : Prop :=
  decode 0x1400000000000000 = .ok .frmSeal ∧
  ∀ s : State, s.rxState ≠ .active →
    (s.txState = .empty →
      exec .frmSeal s = .next { s with err := s.err ||| 4, answer := some ⟨0, true⟩ }) ∧
    (s.txState ≠ .empty → 4 ≤ s.txSize.toNat →
      ∃ t raw, exec .frmSeal s = .next t ∧
        raw = foldBytes s.inst.crcFold s.crcPoly s.crcInit ((List.range (s.txSize.toNat - 4)).map s.txbuf.read) ∧
        t = { s with
          crcAcc := raw, txbuf := t.txbuf, txWritten := t.txWritten, txState := .sealed
          answer := some ⟨raw ^^^ s.crcXorout, false⟩ } ∧
        (∀ j, j < 4 → t.txbuf.read (s.txSize.toNat - 4 + j) = (raw ^^^ s.crcXorout).extractLsb' (8 * j) 8) ∧
        ∀ a, a < s.txSize.toNat - 4 ∨ s.txSize.toNat ≤ a → t.txbuf.read a = s.txbuf.read a)

/-- R106: the sealed frame is appended to `TXQ`, ascending offsets; nothing else changes. -/
def Obligations.FrmSendAppendsSealedFrame : Prop :=
  decode 0x1500000000000000 = .ok .frmSend ∧
  ∀ s : State, s.rxState ≠ .active →
    (s.txState ≠ .sealed →
      exec .frmSend s = .next { s with err := s.err ||| 4, answer := some ⟨0, true⟩ }) ∧
    (s.txState = .sealed →
      exec .frmSend s = .next { s with
        txq := s.txq ++ (List.range s.txSize.toNat).map s.txbuf.read
        answer := some ⟨0, false⟩ })

/-- R107. -/
def Obligations.FrmGetReadsOneByte : Prop :=
  (∀ off : Byte, decode (0x16#8 ++ off ++ 0#16 ++ 0#32) = .ok (.frmGet off.toNat)) ∧
  ∀ (off : Nat) (s : State), s.rxState ≠ .active →
    (s.txState = .empty →
      exec (.frmGet off) s = .next { s with err := s.err ||| 4, answer := some ⟨0, true⟩ }) ∧
    (s.txState ≠ .empty → off ≥ s.txSize.toNat →
      exec (.frmGet off) s = .next { s with err := s.err ||| 8, answer := some ⟨0, true⟩ }) ∧
    (s.txState ≠ .empty → off < s.txSize.toNat →
      exec (.frmGet off) s = .next { s with answer := some ⟨BitVec.ofNat 32 (s.txbuf.read off).toNat, false⟩ })

/-- R102, R103: no field write reaches the marker, the opcode or the trailer. -/
def Obligations.FieldWritesLeaveFramingBytes : Prop :=
  ∀ (i : Instr) (s t : State),
    ((∃ off v, i = .frmPut8 off v) ∨ (∃ off v, i = .frmPut16u off v) ∨ ∃ off v, i = .frmPut16s off v) →
    exec i s = .next t →
    ∀ a, a < 2 ∨ s.txSize.toNat - 4 ≤ a → t.txbuf.read a = s.txbuf.read a

/-- The model's record of log 14, the history R35 (b) speaks of: `FRM.OPEN` begins it with the bytes of its frame, the
field writes and `FRM.SEAL` add the bytes they store, no other step but reset touches it, and a byte of `TXBUF` that a
step changes is in it afterwards. -/
def Obligations.FrameWritesAreRecorded : Prop :=
  (∀ (opc : Byte) (k : Nat) (s t : State), s.rxState ≠ .active → k ≤ 4 → exec (.frmOpen opc k) s = .next t →
    ∀ a, a ∈ t.txWritten ↔ a < 14 + 2 * k) ∧
  (∀ (off : Nat) (v : Byte) (s t : State), s.rxState ≠ .active → s.txState ≠ .empty → 2 ≤ off →
    off + 5 ≤ s.txSize.toNat → exec (.frmPut8 off v) s = .next t →
    ∀ a, a ∈ t.txWritten ↔ a ∈ s.txWritten ∨ a = off) ∧
  (∀ (off : Nat) (i : Instr) (s t : State), ((∃ v, i = .frmPut16u off v) ∨ ∃ v, i = .frmPut16s off v) →
    s.rxState ≠ .active → s.txState ≠ .empty → 2 ≤ off → off + 1 + 5 ≤ s.txSize.toNat → exec i s = .next t →
    ∀ a, a ∈ t.txWritten ↔ a ∈ s.txWritten ∨ a = off ∨ a = off + 1) ∧
  (∀ s t : State, s.rxState ≠ .active → s.txState ≠ .empty → 4 ≤ s.txSize.toNat → exec .frmSeal s = .next t →
    ∀ a, a ∈ t.txWritten ↔ a ∈ s.txWritten ∨ (s.txSize.toNat - 4 ≤ a ∧ a < s.txSize.toNat)) ∧
  (∀ s t : State, step s = .next t → s.pending.head? ≠ some .reset →
    (∀ a, t.txbuf.read a ≠ s.txbuf.read a → a ∈ t.txWritten) ∧
    (t.txWritten ≠ s.txWritten → ∃ w i, s.pending.head? = some (.host w) ∧ decode w = .ok i ∧
      ((∃ opc k, i = .frmOpen opc k) ∨ (∃ off v, i = .frmPut8 off v) ∨ (∃ off v, i = .frmPut16u off v) ∨
        (∃ off v, i = .frmPut16s off v) ∨ i = .frmSeal)))

/-- The document's round trip (R88): on a sealed frame the recomputed checksum is the stored trailer. -/
def Obligations.SealedTrailerIsRecomputed : Prop :=
  ∀ s : State, s.Inv → s.rxState ≠ .active → s.txState = .sealed →
    ∃ t, exec (.crcRuntx (s.txSize.toNat - 4)) s = .next t ∧
      t.answer = some ⟨BitVec.ofNat 32 (s.txbuf.memRead (s.txSize.toNat - 4) 4), false⟩ ∧
      t = { s with crcAcc := t.crcAcc, answer := t.answer }

/-- Decision D10, R106: whatever a step appends to `TXQ` is one frame of at least 14 bytes that begins with the command
marker and ends in the little-endian checksum of the bytes before it. -/
def Obligations.SentFramesCarryTheirChecksum : Prop :=
  ∀ s t : State, s.Inv → step s = .next t →
    t.txq = s.txq ∨ t.txq = s.txq.tail ∨
    ∃ body : List Byte, 10 ≤ body.length ∧ body.head? = some s.inst.cmdStartMark ∧
      t.txq = s.txq ++ body ++ (List.range 4).map fun j => (s.checksum body).extractLsb' (8 * j) 8

/-! ## Reassembler -/

/-- R121. -/
def Obligations.RxStartBeginsReassembly : Prop :=
  (∀ e : BitVec 16, decode (0x20#8 ++ 0#8 ++ e ++ 0#32) = .ok (.rxStart e.toNat)) ∧
  ∀ (e : BitVec 16) (s : State), s.rxState ≠ .active →
    exec (.rxStart e.toNat) s = .next { s with
      rxExpect := e, rxCount := 0, rxIter := 0, rxOk := false, rxType := s.inst.failType, rxDecl := 0, rxPlen := 0
      rxState := .active, answer := some ⟨0, false⟩ }

/-- R122: payload byte `i` is `RXBUF[4 + i]`. -/
def Obligations.RxGetReadsPayload : Prop :=
  (∀ j : BitVec 16, decode (0x21#8 ++ 0#8 ++ j ++ 0#32) = .ok (.rxGet j.toNat)) ∧
  ∀ (j : Nat) (s : State),
    (s.rxState = .idle →
      exec (.rxGet j) s = .next { s with err := s.err ||| 4, answer := some ⟨0, true⟩ }) ∧
    (s.rxState = .done → j ≥ s.rxPlen.toNat →
      exec (.rxGet j) s = .next { s with err := s.err ||| 8, answer := some ⟨0, true⟩ }) ∧
    (s.rxState = .done → j < s.rxPlen.toNat →
      exec (.rxGet j) s = .next { s with answer := some ⟨BitVec.ofNat 32 (s.rxbuf.read (4 + j)).toNat, false⟩ })

/-- R123. -/
def Obligations.RxRawReadsGatheredByte : Prop :=
  (∀ j : BitVec 32, decode (0x22#8 ++ 0#8 ++ 0#16 ++ j) = .ok (.rxRaw j.toNat)) ∧
  ∀ (j : Nat) (s : State),
    (s.rxState = .idle →
      exec (.rxRaw j) s = .next { s with err := s.err ||| 4, answer := some ⟨0, true⟩ }) ∧
    (s.rxState = .done → j ≥ s.rxCount.toNat →
      exec (.rxRaw j) s = .next { s with err := s.err ||| 8, answer := some ⟨0, true⟩ }) ∧
    (s.rxState = .done → j < s.rxCount.toNat →
      exec (.rxRaw j) s = .next { s with answer := some ⟨BitVec.ofNat 32 (s.rxbuf.read j).toNat, false⟩ })

/-- R124: one poll takes every byte there is, up to the room left, and counts one iteration; where it is not enabled the
sequencer gathers nothing and counts nothing. -/
def Obligations.PollGathersWhatIsThere : Prop :=
  ∀ (s : State) (rest : List Event), s.pending = .sequencer :: rest →
    (s.rxState = .active → s.rxCount.toNat < s.rxExpect.toNat + 8 → s.rxIter.toNat < s.inst.retryBudget.toNat →
      ∃ t n, step s = .next t ∧ n = min s.rxq.length (65543 - s.rxCount.toNat) ∧
        t = { s with
          pending := rest, rxbuf := t.rxbuf, rxq := s.rxq.drop n, rxCount := t.rxCount, rxIter := t.rxIter } ∧
        t.rxCount.toNat = s.rxCount.toNat + n ∧ t.rxIter.toNat = s.rxIter.toNat + 1 ∧
        (∀ j, j < n → t.rxbuf.read (s.rxCount.toNat + j) = s.rxq.getD j 0) ∧
        ∀ a, a < s.rxCount.toNat ∨ s.rxCount.toNat + n ≤ a → t.rxbuf.read a = s.rxbuf.read a) ∧
    (s.rxState ≠ .active ∨ s.rxExpect.toNat + 8 ≤ s.rxCount.toNat ∨ s.inst.retryBudget.toNat ≤ s.rxIter.toNat →
      ∃ t, step s = .next t ∧
        t.rxIter = s.rxIter ∧ t.rxCount = s.rxCount ∧ t.rxq = s.rxq ∧ ∀ a, t.rxbuf.read a = s.rxbuf.read a)

/-- R125 with R127: what `RX.COMPLETE` makes of the bytes gathered. `L` is the declared length, `raw` the accumulator over
header and payload. -/
def Obligations.CompleteGivesTheResult : Prop :=
  ∀ (s : State) (rest : List Event) (L : Nat) (raw : Word), s.pending = .sequencer :: rest →
    s.rxState = .active → (s.rxExpect.toNat + 8 ≤ s.rxCount.toNat ∨ s.rxIter = s.inst.retryBudget) →
    L = (s.rxbuf.read 2).toNat + 256 * (s.rxbuf.read 3).toNat →
    raw = foldBytes s.inst.crcFold s.crcPoly s.crcInit ((List.range (4 + L)).map s.rxbuf.read) →
    (s.rxCount.toNat < 8 ∨ s.rxbuf.read 0 ≠ s.inst.rspStartMark →
      step s = .next { s with
        pending := rest, rxOk := false, rxType := s.inst.failType, rxDecl := 0, rxPlen := 0, rxState := .done }) ∧
    (8 ≤ s.rxCount.toNat → s.rxbuf.read 0 = s.inst.rspStartMark →
      (s.ctrl = 0 →
        step s = .next { s with
          pending := rest, rxOk := true, rxType := s.rxbuf.read 1, rxDecl := BitVec.ofNat 16 L
          rxPlen := BitVec.ofNat 16 (min L (s.rxCount.toNat - 8)), rxState := .done }) ∧
      (s.ctrl = 1 → s.rxCount.toNat < L + 8 →
        step s = .next { s with
          pending := rest, err := s.err ||| 16
          rxOk := false, rxType := s.inst.failType, rxDecl := 0, rxPlen := 0, rxState := .done }) ∧
      (s.ctrl = 1 → L + 8 ≤ s.rxCount.toNat →
        ((∀ j, j < 4 → s.rxbuf.read (4 + L + j) = (raw ^^^ s.crcXorout).extractLsb' (8 * j) 8) →
          step s = .next { s with
            pending := rest, crcAcc := raw, rxOk := true, rxType := s.rxbuf.read 1, rxDecl := BitVec.ofNat 16 L
            rxPlen := BitVec.ofNat 16 (min L (s.rxCount.toNat - 8)), rxState := .done }) ∧
        ((∃ j, j < 4 ∧ s.rxbuf.read (4 + L + j) ≠ (raw ^^^ s.crcXorout).extractLsb' (8 * j) 8) →
          step s = .next { s with
            pending := rest, crcAcc := raw, err := s.err ||| 16
            rxOk := false, rxType := s.inst.failType, rxDecl := 0, rxPlen := 0, rxState := .done })))

/-- R171: `RXCRC` is raised by `RX.COMPLETE` with `CTRL.RX_CRC_EN = 1`, where the response (one that passed validation,
R125) misses its checksum or has another, and by nothing else; the reassembly then ends with the failure result. -/
def Obligations.RxcrcRaisedOnlyByVerification : Prop :=
  ∀ s t : State, step s = .next t → s.err &&& 16 = 0 →
    (t.err &&& 16 ≠ 0 →
      (s.pending = [] ∨ s.pending.head? = some .sequencer) ∧ s.rxState = .active ∧
      (s.rxExpect.toNat + 8 ≤ s.rxCount.toNat ∨ s.inst.retryBudget.toNat ≤ s.rxIter.toNat) ∧
      s.ctrl = 1 ∧ s.responseValid = true ∧ (s.trailerPresent = false ∨ s.trailerMatches = false) ∧
      t.rxState = .done ∧ t.rxOk = false ∧ t.rxType = s.inst.failType ∧ t.rxDecl = 0 ∧ t.rxPlen = 0) ∧
    (s.pending.head? = some .sequencer → s.rxState = .active →
      (s.rxExpect.toNat + 8 ≤ s.rxCount.toNat ∨ s.rxIter = s.inst.retryBudget) →
      s.ctrl = 1 → s.responseValid = true → (s.trailerPresent = false ∨ s.trailerMatches = false) →
      t.err &&& 16 ≠ 0)

/-- R128: "At least one poll happens in every reassembly". -/
def Obligations.EveryReassemblyPollsOnce : Prop :=
  ∀ (e : BitVec 16) (s t : State) (rest : List Event), s.inst.legal = true → s.rxState ≠ .active →
    exec (.rxStart e.toNat) s = .next t →
    ∃ u, step { t with pending := .sequencer :: rest } = .next u ∧
      u.rxState = .active ∧ u.rxIter = 1 ∧ u.pending = rest ∧
      u.rxCount.toNat = min s.rxq.length 65543 ∧ u.rxq = s.rxq.drop u.rxCount.toNat

/-- R128: every reassembly ends. Under every schedule without a reset that gives the sequencer more steps than the budget
has left, some prefix of it reaches `DONE`; and left to itself the block reaches `DONE` within the budget and one step.
The second clause rests on the model's choice of log 4 (an empty schedule lets the sequencer step), and in states with
`RX_ITER` past the budget, which no run reaches, both clauses rest on log 10. -/
def Obligations.EveryReassemblyEnds : Prop :=
  (∀ s : State, s.rxState = .active → Event.reset ∉ s.pending →
    s.inst.retryBudget.toNat - s.rxIter.toNat < s.pending.count .sequencer →
    ∃ k t, k ≤ s.pending.length ∧ Host.Core.run Sys2Proof.core k s = .next t ∧ t.rxState = .done) ∧
  ∀ s : State, s.rxState = .active → s.pending = [] →
    ∃ k t, k ≤ s.inst.retryBudget.toNat - s.rxIter.toNat + 1 ∧
      Host.Core.run Sys2Proof.core k s = .next t ∧ t.rxState = .done

/-- R126, exact and over-read cases: a whole response that waits in `RXQ`, whatever follows it, is delivered: type,
declared length, and every payload byte by `RX.GET`. The sequencer takes one poll and the completion. -/
def Obligations.WholeResponseIsDelivered : Prop :=
  ∀ (s : State) (ty lo hi : Byte) (payload trailer extra : List Byte),
    s.inst.legal = true → s.ctrl = 0 → s.rxState ≠ .active → payload.length = lo.toNat + 256 * hi.toNat →
    trailer.length = 4 →
    s.rxq = [s.inst.rspStartMark, ty, lo, hi] ++ payload ++ trailer ++ extra →
    s.pending = [.host (encode (.rxStart payload.length)), .sequencer, .sequencer] →
    ∃ t, Host.Core.run Sys2Proof.core 3 s = .next t ∧
      t.rxState = .done ∧ t.rxOk = true ∧ t.rxType = ty ∧ t.rxDecl.toNat = payload.length ∧
      t.rxPlen.toNat = payload.length ∧ t.crcAcc = s.crcAcc ∧ t.err = s.err ∧
      ∀ j, j < payload.length →
        exec (.rxGet j) t = .next { t with answer := some ⟨BitVec.ofNat 32 (payload.getD j 0).toNat, false⟩ }

/-! ## Configuration -/

/-- R150 with the register map of R34: every register, and no other number; also while a reassembly runs. -/
def Obligations.CfgRdReadsEveryRegister : Prop :=
  (∀ r : Byte, decode (0x30#8 ++ r ++ 0#16 ++ 0#32) = .ok (.cfgRd r.toNat)) ∧
  (∀ (r : Nat) (s : State), r > 0x0F →
    exec (.cfgRd r) s = .next { s with err := s.err ||| 8, answer := some ⟨0, true⟩ }) ∧
  ∀ (r : Nat) (s : State), r ≤ 0x0F → ∃ v : Word,
    exec (.cfgRd r) s = .next { s with answer := some ⟨v, false⟩ } ∧
    v.toNat = [
      s.crcPoly.toNat, s.crcInit.toNat, s.crcXorout.toNat, s.crcAcc.toNat, s.ctrl.toNat,
      (match s.txState with | .empty => 0 | .opened => 1 | .sealed => 2)
        + 4 * (match s.rxState with | .idle => 0 | .active => 1 | .done => 2) + 16 * s.rxOk.toNat,
      s.err.toNat, s.txSize.toNat, s.rxExpect.toNat, s.rxCount.toNat, s.rxIter.toNat, s.rxType.toNat,
      s.rxDecl.toNat, s.rxPlen.toNat, s.inst.retryBudget.toNat,
      s.inst.cmdStartMark.toNat + 256 * s.inst.rspStartMark.toNat + 65536 * 4
        + 16777216 * (match s.inst.crcFold with | .msb8 => 0 | .word32 => 1)].getD r 0

/-- R151: every register number. -/
def Obligations.CfgWrWritesOnlyWritable : Prop :=
  (∀ (r : Byte) (v : Word), decode (0x31#8 ++ r ++ 0#16 ++ v) = .ok (.cfgWr r.toNat v)) ∧
  ∀ (v : Word) (s : State), s.rxState ≠ .active →
    exec (.cfgWr 0x00 v) s = .next { s with
      crcPoly := v, txState := if s.txState = .sealed then .opened else s.txState, answer := some ⟨0, false⟩ } ∧
    exec (.cfgWr 0x01 v) s = .next { s with
      crcInit := v, txState := if s.txState = .sealed then .opened else s.txState, answer := some ⟨0, false⟩ } ∧
    exec (.cfgWr 0x02 v) s = .next { s with
      crcXorout := v, txState := if s.txState = .sealed then .opened else s.txState, answer := some ⟨0, false⟩ } ∧
    (v.toNat < 2 →
      exec (.cfgWr 0x04 v) s = .next { s with ctrl := BitVec.ofNat 1 v.toNat, answer := some ⟨0, false⟩ }) ∧
    (2 ≤ v.toNat →
      exec (.cfgWr 0x04 v) s = .next { s with err := s.err ||| 8, answer := some ⟨0, true⟩ }) ∧
    (v.toNat < 32 →
      exec (.cfgWr 0x06 v) s = .next { s with
        err := s.err &&& ~~~(BitVec.ofNat 5 v.toNat), answer := some ⟨0, false⟩ }) ∧
    (32 ≤ v.toNat →
      exec (.cfgWr 0x06 v) s = .next { s with err := s.err ||| 8, answer := some ⟨0, true⟩ }) ∧
    ∀ r, r ∉ [0x00, 0x01, 0x02, 0x04, 0x06] →
      exec (.cfgWr r v) s = .next { s with err := s.err ||| 8, answer := some ⟨0, true⟩ }

/-! ## Queues -/

/-- R24: the environment's steps, and that nothing else than the steps R24 names moves a byte of either queue. -/
def Obligations.QueuesMoveOnlyAsStated : Prop :=
  (∀ (s : State) (bs : List Byte) (rest : List Event), s.pending = .rxPush bs :: rest →
    step s = .next { s with pending := rest, rxq := s.rxq ++ bs }) ∧
  (∀ (s : State) (b : Byte) (bs : List Byte) (rest : List Event), s.txq = b :: bs → s.pending = .txPop :: rest →
    step s = .next { s with pending := rest, txq := bs }) ∧
  ∀ s t : State, step s = .next t →
    (t.txq = s.txq ∨ (s.pending.head? = some .txPop ∧ t.txq = s.txq.tail) ∨
      ∃ w frame, s.pending.head? = some (.host w) ∧ decode w = .ok .frmSend ∧ t.txq = s.txq ++ frame) ∧
    (t.rxq = s.rxq ∨ (∃ bs, s.pending.head? = some (.rxPush bs) ∧ t.rxq = s.rxq ++ bs) ∨
      ∃ taken, s.pollEnabled = true ∧ (s.pending = [] ∨ s.pending.head? = some .sequencer) ∧ s.rxq = taken ++ t.rxq)
end

