-- ==== Sys2Proof/Laws/Encoding.lean ====
section
/-! SUPPORT. Cutting a word into fields and putting it together; masking a word field by field. -/

namespace Sys2Proof

/-- The fields of a word put together from fields are those fields. -/
theorem Fields.fields_word (f : Fields) : OpWord.fields f.word = f := by
  obtain ⟨op, a, h, d⟩ := f
  simp only [OpWord.fields, Fields.word, Fields.mk.injEq]
  refine ⟨?_, ?_, ?_, ?_⟩ <;> ext j hj <;> simp [BitVec.getElem_extractLsb'] <;> grind

/-- A word is put together from its fields. -/
theorem OpWord.word_fields (w : OpWord) : (OpWord.fields w).word = w := by
  simp only [OpWord.fields, Fields.word]
  ext j hj
  simp
  grind

/-- `AND` of two words is `AND` of their fields. -/
theorem Fields.and_word (f g : Fields) :
    f.word &&& g.word = Fields.word ⟨f.op &&& g.op, f.a &&& g.a, f.h &&& g.h, f.d &&& g.d⟩ := by
  simp only [Fields.word]
  ext j hj
  simp
  grind

/-- Decoding an encoded operation decodes its fields. -/
theorem decode_encode_fields (i : Instr) : decode (encode i) = i.fields.decode := by
  rw [decode, encode, Fields.fields_word]

/-- The decoder's answer and the must-be-zero check. -/
theorem legalIf_ok {f : Fields} {z : Bool} {i j : Instr} (h : f.legalIf z i = .ok j) : z = true ∧ j = i := by
  unfold Fields.legalIf at h
  split at h
  · rename_i hz; cases h; exact ⟨hz, rfl⟩
  · cases h

/-- A "low 8" operand masked to its eight bits is itself. -/
theorem lowHalf_and (b : Byte) : lowHalf b &&& 0xFF00#16 = 0 := by
  unfold lowHalf
  ext j hj
  simp only [BitVec.getElem_and, BitVec.zeroExtend_eq_setWidth, BitVec.getElem_setWidth]
  by_cases h : j < 8
  · interval_cases j <;> simp
  · rw [BitVec.getLsbD_of_ge b j (by omega)]; simp

end Sys2Proof
end

