-- ==== Sys2Proof/Laws/Memory.lean ====
section
/-! SUPPORT. The buffers: a read after a write, what a write leaves alone, and that every write keeps the canonical form. -/

namespace Sys2Proof.Machine

theorem unlisted_eq : Memory.unlisted = 0 := rfl

@[simp] theorem littleEndian_length (n v : Nat) : (littleEndian n v).length = n := by
  induction n generalizing v with
  | zero => rfl
  | succ n ih => simp [littleEndian, ih]

theorem cellsFrom_bounds {a : Nat} {bs : List Byte} {c : Host.Cell} (h : c ∈ cellsFrom a bs) :
    a ≤ c.1 ∧ c.1 < a + bs.length := by
  induction bs generalizing a with
  | nil => simp [cellsFrom] at h
  | cons b bs ih =>
    simp only [cellsFrom, List.length_cons] at h ⊢
    split at h
    · have := ih h; omega
    · rcases List.mem_cons.1 h with rfl | h
      · simp
      · have := ih h; omega

theorem cellsFrom_listed {a : Nat} {bs : List Byte} {c : Host.Cell} (h : c ∈ cellsFrom a bs) :
    c.2 ≠ Memory.unlisted := by
  induction bs generalizing a with
  | nil => simp [cellsFrom] at h
  | cons b bs ih =>
    simp only [cellsFrom] at h
    split at h
    · exact ih h
    · rename_i hb
      rcases List.mem_cons.1 h with rfl | h
      · exact hb
      · exact ih h

theorem cellsFrom_rising (a : Nat) (bs : List Byte) : (cellsFrom a bs).Pairwise fun c d => c.1 < d.1 := by
  induction bs generalizing a with
  | nil => simp [cellsFrom]
  | cons b bs ih =>
    simp only [cellsFrom]
    split
    · exact ih _
    · refine List.pairwise_cons.2 ⟨fun d hd => ?_, ih _⟩
      have := cellsFrom_bounds hd
      show a < d.1
      omega

theorem lookup_none_of_keys {m : Memory} {x : Nat} (h : ∀ c ∈ m, c.1 ≠ x) : m.lookup x = none := by
  rw [List.lookup_eq_none_iff]
  intro c hc
  simpa using (h c hc).symm

theorem lookup_filter_kept {m : Memory} {p : Nat → Bool} {x : Nat} (h : p x = true) :
    (m.filter fun c => p c.1).lookup x = m.lookup x := by
  induction m with
  | nil => rfl
  | cons c m ih =>
    obtain ⟨k, b⟩ := c
    by_cases hk : x = k
    · subst hk; simp [List.filter, h, List.lookup]
    · have hk' : (x == k) = false := by simpa using hk
      cases hp : p k <;> simp [List.filter, hp, List.lookup, hk', ih]

theorem lookup_cellsFrom (a : Nat) (bs : List Byte) (x : Nat) (h : a ≤ x) (h' : x < a + bs.length) :
    ((cellsFrom a bs).lookup x).getD Memory.unlisted = bs.getD (x - a) 0 := by
  induction bs generalizing a with
  | nil => simp at h'; omega
  | cons b bs ih =>
    simp only [List.length_cons] at h'
    by_cases hx : x = a
    · subst hx
      simp only [cellsFrom]
      split
      · rename_i hb
        rw [lookup_none_of_keys (fun c hc => by have := cellsFrom_bounds hc; omega)]
        simp [hb, unlisted_eq]
      · simp [List.lookup]
    · have hxa : (x == a) = false := by simpa using hx
      obtain ⟨k, hk⟩ : ∃ k, x - a = k + 1 := ⟨x - a - 1, by omega⟩
      have hk' : x - (a + 1) = k := by omega
      have := ih (a + 1) (by omega) (by omega)
      simp only [cellsFrom]
      split
      · rw [this, hk, hk']; simp
      · simp only [List.lookup, hxa]; rw [this, hk, hk']; simp

/-- Everything one write of a run of bytes does, as one byte read after it. -/
theorem read_writeBytes (m : Memory) (a : Nat) (bs : List Byte) (x : Nat) :
    (m.writeBytes a bs).read x = if a ≤ x ∧ x < a + bs.length then bs.getD (x - a) 0 else m.read x := by
  have below : x < a → (m.writeBytes a bs).lookup x = m.lookup x := fun h => by
    rw [Memory.writeBytes, List.lookup_append, List.lookup_append,
      lookup_none_of_keys (m := cellsFrom a bs) (fun c hc => by have := cellsFrom_bounds hc; omega),
      lookup_none_of_keys (m := m.filter fun c => decide (a + bs.length ≤ c.1))
        (fun c hc => by have := (List.mem_filter.1 hc).2; simp at this; omega),
      lookup_filter_kept (p := fun k => decide (k < a)) (by simpa using h)]
    simp
  have above : a + bs.length ≤ x → (m.writeBytes a bs).lookup x = m.lookup x := fun h => by
    rw [Memory.writeBytes, List.lookup_append, List.lookup_append,
      lookup_none_of_keys (m := cellsFrom a bs) (fun c hc => by have := cellsFrom_bounds hc; omega),
      lookup_none_of_keys (m := m.filter fun c => decide (c.1 < a))
        (fun c hc => by have := (List.mem_filter.1 hc).2; simp at this; omega),
      lookup_filter_kept (p := fun k => decide (a + bs.length ≤ k)) (by simpa using h)]
    simp
  have inside : a ≤ x → x < a + bs.length → (m.writeBytes a bs).lookup x = (cellsFrom a bs).lookup x := fun h h' => by
    rw [Memory.writeBytes, List.lookup_append, List.lookup_append,
      lookup_none_of_keys (m := m.filter fun c => decide (c.1 < a))
        (fun c hc => by have := (List.mem_filter.1 hc).2; simp at this; omega),
      lookup_none_of_keys (m := m.filter fun c => decide (a + bs.length ≤ c.1))
        (fun c hc => by have := (List.mem_filter.1 hc).2; simp at this; omega)]
    simp
  unfold Memory.read
  split
  · rename_i h; rw [inside h.1 h.2, lookup_cellsFrom a bs x h.1 h.2]
  · rename_i h
    by_cases hx : x < a
    · rw [below hx]
    · rw [above (by omega)]

theorem read_writeBytes_outside {m : Memory} {a : Nat} {bs : List Byte} {x : Nat} (h : x < a ∨ a + bs.length ≤ x) :
    (m.writeBytes a bs).read x = m.read x := by
  rw [read_writeBytes, if_neg (by omega)]

theorem read_writeBytes_inside {m : Memory} {a : Nat} {bs : List Byte} {j : Nat} (h : j < bs.length) :
    (m.writeBytes a bs).read (a + j) = bs.getD j 0 := by
  rw [read_writeBytes, if_pos (by omega)]
  congr 1; omega

theorem read_memWrite_outside {m : Memory} {a n v x : Nat} (h : x < a ∨ a + n ≤ x) :
    (m.memWrite a n v).read x = m.read x :=
  read_writeBytes_outside (by rwa [littleEndian_length])

theorem wf_iff (m : Memory) :
    m.wf = true ↔ (m.Pairwise fun c d => c.1 < d.1) ∧ ∀ c ∈ m, c.2 ≠ Memory.unlisted := by
  simp [Memory.wf]

/-- A write keeps the canonical form. -/
theorem writeBytes_wf {m : Memory} (h : m.wf = true) (a : Nat) (bs : List Byte) : (m.writeBytes a bs).wf = true := by
  rw [wf_iff] at h ⊢
  constructor
  · unfold Memory.writeBytes
    refine List.pairwise_append.2 ⟨List.pairwise_append.2 ⟨h.1.filter _, cellsFrom_rising a bs, ?_⟩, h.1.filter _, ?_⟩
    · intro c hc d hd
      have := (List.mem_filter.1 hc).2
      have := cellsFrom_bounds hd
      simp at *; omega
    · intro c hc d hd
      have := (List.mem_filter.1 hd).2
      rcases List.mem_append.1 hc with hc | hc
      · have := (List.mem_filter.1 hc).2
        simp at *; omega
      · have := cellsFrom_bounds hc
        simp at *; omega
  · intro c hc
    simp only [Memory.writeBytes, List.mem_append] at hc
    rcases hc with (hc | hc) | hc
    · exact h.2 c (List.mem_filter.1 hc).1
    · exact cellsFrom_listed hc
    · exact h.2 c (List.mem_filter.1 hc).1

theorem memWrite_wf {m : Memory} (h : m.wf = true) (a n v : Nat) : (m.memWrite a n v).wf = true :=
  writeBytes_wf h a _

theorem nil_wf : Memory.wf [] = true := rfl

theorem below_iff (m : Memory) (size : Nat) : m.below size = true ↔ ∀ c ∈ m, c.1 < size := by
  simp [Memory.below]

/-- A write inside a buffer's size stays inside it. -/
theorem writeBytes_below {m : Memory} {size a : Nat} {bs : List Byte} (h : m.below size = true)
    (hb : a + bs.length ≤ size) : (m.writeBytes a bs).below size = true := by
  rw [below_iff] at h ⊢
  intro c hc
  simp only [Memory.writeBytes, List.mem_append] at hc
  rcases hc with (hc | hc) | hc
  · exact h c (List.mem_filter.1 hc).1
  · have := cellsFrom_bounds hc; omega
  · exact h c (List.mem_filter.1 hc).1

theorem memWrite_below {m : Memory} {size a n v : Nat} (h : m.below size = true) (hb : a + n ≤ size) :
    (m.memWrite a n v).below size = true :=
  writeBytes_below h (by rwa [littleEndian_length])

@[simp] theorem readBytes_length (m : Memory) (a n : Nat) : (m.readBytes a n).length = n := by
  induction n generalizing a with
  | zero => rfl
  | succ n ih => simp [Memory.readBytes, ih]

/-- A run from offset 0 on, byte by byte. -/
theorem readBytes_eq_map (m : Memory) (n : Nat) : m.readBytes 0 n = (List.range n).map m.read := by
  have h : ∀ a, m.readBytes a n = (List.range n).map fun j => m.read (a + j) := by
    induction n with
    | zero => intro a; rfl
    | succ n ih =>
      intro a
      rw [Memory.readBytes, ih, List.range_succ_eq_map]
      simp [Nat.add_comm, Nat.add_left_comm]
  simpa using h 0

theorem readBytes_getElem (m : Memory) (a n j : Nat) (h : j < (m.readBytes a n).length) :
    (m.readBytes a n)[j] = m.read (a + j) := by
  induction n generalizing a j with
  | zero => simp at h
  | succ n ih =>
    cases j with
    | zero => simp [Memory.readBytes]
    | succ j =>
      simp only [Memory.readBytes, List.getElem_cons_succ]
      rw [ih]; congr 1; omega

/-- Two buffers that agree on a run of offsets read the same run of bytes. -/
theorem readBytes_congr {m m' : Memory} {a n : Nat} (h : ∀ x, a ≤ x → x < a + n → m.read x = m'.read x) :
    m.readBytes a n = m'.readBytes a n := by
  induction n generalizing a with
  | zero => rfl
  | succ n ih =>
    simp only [Memory.readBytes]
    rw [h a (by omega) (by omega), ih fun x hx hx' => h x (by omega) (by omega)]

theorem memRead_congr {m m' : Memory} {a n : Nat} (h : ∀ x, a ≤ x → x < a + n → m.read x = m'.read x) :
    m.memRead a n = m'.memRead a n := by
  induction n generalizing a with
  | zero => rfl
  | succ n ih =>
    simp only [Memory.memRead]
    rw [h a (by omega) (by omega), ih fun x hx hx' => h x (by omega) (by omega)]

theorem memRead_lt (m : Memory) (a n : Nat) : m.memRead a n < 256 ^ n := by
  induction n generalizing a with
  | zero => simp [Memory.memRead]
  | succ n ih =>
    have h1 := (m.read a).isLt
    have h2 := ih (a + 1)
    simp only [Memory.memRead, Nat.pow_succ]
    omega

theorem memRead_of_littleEndian (m : Memory) (a n v : Nat)
    (h : ∀ j, j < n → m.read (a + j) = (littleEndian n v).getD j 0) : m.memRead a n = v % 256 ^ n := by
  induction n generalizing a v with
  | zero => simp [Memory.memRead, Nat.mod_one]
  | succ n ih =>
    have h0 := h 0 (by omega)
    have hs := ih (a + 1) (v / 256) fun j hj => by
      have := h (j + 1) (by omega)
      simp only [littleEndian, List.getD_cons_succ] at this
      rw [← this]; congr 1; omega
    simp only [Nat.add_zero, littleEndian, List.getD_cons_zero] at h0
    simp only [Memory.memRead, h0, hs, BitVec.toNat_ofNat]
    rw [show 256 ^ (n + 1) = 256 * 256 ^ n by rw [Nat.pow_succ, Nat.mul_comm], Nat.mod_mul]

/-- Everything that recording a write does: the run of offsets is added. -/
theorem mem_recordWrites {written : List Nat} {a n x : Nat} :
    x ∈ recordWrites written a n ↔ x ∈ written ∨ (a ≤ x ∧ x < a + n) := by
  simp only [recordWrites, List.mem_append, List.mem_filter, List.mem_range'_1]
  by_cases h : x ∈ written <;> simp [h]

/-- The record names each offset once. -/
theorem recordWrites_nodup {written : List Nat} (h : written.Nodup) (a n : Nat) :
    (recordWrites written a n).Nodup := by
  refine List.nodup_append.2 ⟨h, List.Nodup.filter _ List.nodup_range', fun x hx y hy e => ?_⟩
  subst e
  have := (List.mem_filter.1 hy).2
  simp [hx] at this

/-- What `MemWrite` stores, `MemRead` reads back (R41). -/
theorem memRead_memWrite (m : Memory) (a n v : Nat) : (m.memWrite a n v).memRead a n = v % 256 ^ n :=
  memRead_of_littleEndian _ a n v fun j hj =>
    read_writeBytes_inside (by rw [littleEndian_length]; exact hj)

end Sys2Proof.Machine
end

