-- ==== Sys2Proof/Laws/State.lean ====
section
/-! SUPPORT. Each named update of the state, field by field. -/

namespace Sys2Proof.Machine

variable (s : State)

@[simp] theorem reply_inst (v : Word) : (s.reply v).inst = s.inst := rfl
@[simp] theorem reply_crcPoly (v : Word) : (s.reply v).crcPoly = s.crcPoly := rfl
@[simp] theorem reply_crcInit (v : Word) : (s.reply v).crcInit = s.crcInit := rfl
@[simp] theorem reply_crcXorout (v : Word) : (s.reply v).crcXorout = s.crcXorout := rfl
@[simp] theorem reply_crcAcc (v : Word) : (s.reply v).crcAcc = s.crcAcc := rfl
@[simp] theorem reply_ctrl (v : Word) : (s.reply v).ctrl = s.ctrl := rfl
@[simp] theorem reply_err (v : Word) : (s.reply v).err = s.err := rfl
@[simp] theorem reply_txState (v : Word) : (s.reply v).txState = s.txState := rfl
@[simp] theorem reply_txSize (v : Word) : (s.reply v).txSize = s.txSize := rfl
@[simp] theorem reply_txbuf (v : Word) : (s.reply v).txbuf = s.txbuf := rfl
@[simp] theorem reply_txWritten (v : Word) : (s.reply v).txWritten = s.txWritten := rfl
@[simp] theorem reply_rxState (v : Word) : (s.reply v).rxState = s.rxState := rfl
@[simp] theorem reply_rxOk (v : Word) : (s.reply v).rxOk = s.rxOk := rfl
@[simp] theorem reply_rxExpect (v : Word) : (s.reply v).rxExpect = s.rxExpect := rfl
@[simp] theorem reply_rxCount (v : Word) : (s.reply v).rxCount = s.rxCount := rfl
@[simp] theorem reply_rxIter (v : Word) : (s.reply v).rxIter = s.rxIter := rfl
@[simp] theorem reply_rxType (v : Word) : (s.reply v).rxType = s.rxType := rfl
@[simp] theorem reply_rxDecl (v : Word) : (s.reply v).rxDecl = s.rxDecl := rfl
@[simp] theorem reply_rxPlen (v : Word) : (s.reply v).rxPlen = s.rxPlen := rfl
@[simp] theorem reply_rxbuf (v : Word) : (s.reply v).rxbuf = s.rxbuf := rfl
@[simp] theorem reply_txq (v : Word) : (s.reply v).txq = s.txq := rfl
@[simp] theorem reply_rxq (v : Word) : (s.reply v).rxq = s.rxq := rfl
@[simp] theorem reply_answer (v : Word) : (s.reply v).answer = some ⟨v, false⟩ := rfl
@[simp] theorem reply_pending (v : Word) : (s.reply v).pending = s.pending := rfl

@[simp] theorem raise_inst (f : ErrFlag) : (s.raise f).inst = s.inst := rfl
@[simp] theorem raise_crcPoly (f : ErrFlag) : (s.raise f).crcPoly = s.crcPoly := rfl
@[simp] theorem raise_crcInit (f : ErrFlag) : (s.raise f).crcInit = s.crcInit := rfl
@[simp] theorem raise_crcXorout (f : ErrFlag) : (s.raise f).crcXorout = s.crcXorout := rfl
@[simp] theorem raise_crcAcc (f : ErrFlag) : (s.raise f).crcAcc = s.crcAcc := rfl
@[simp] theorem raise_ctrl (f : ErrFlag) : (s.raise f).ctrl = s.ctrl := rfl
@[simp] theorem raise_err (f : ErrFlag) : (s.raise f).err = s.err ||| f.mask := rfl
@[simp] theorem raise_txState (f : ErrFlag) : (s.raise f).txState = s.txState := rfl
@[simp] theorem raise_txSize (f : ErrFlag) : (s.raise f).txSize = s.txSize := rfl
@[simp] theorem raise_txbuf (f : ErrFlag) : (s.raise f).txbuf = s.txbuf := rfl
@[simp] theorem raise_txWritten (f : ErrFlag) : (s.raise f).txWritten = s.txWritten := rfl
@[simp] theorem raise_rxState (f : ErrFlag) : (s.raise f).rxState = s.rxState := rfl
@[simp] theorem raise_rxOk (f : ErrFlag) : (s.raise f).rxOk = s.rxOk := rfl
@[simp] theorem raise_rxExpect (f : ErrFlag) : (s.raise f).rxExpect = s.rxExpect := rfl
@[simp] theorem raise_rxCount (f : ErrFlag) : (s.raise f).rxCount = s.rxCount := rfl
@[simp] theorem raise_rxIter (f : ErrFlag) : (s.raise f).rxIter = s.rxIter := rfl
@[simp] theorem raise_rxType (f : ErrFlag) : (s.raise f).rxType = s.rxType := rfl
@[simp] theorem raise_rxDecl (f : ErrFlag) : (s.raise f).rxDecl = s.rxDecl := rfl
@[simp] theorem raise_rxPlen (f : ErrFlag) : (s.raise f).rxPlen = s.rxPlen := rfl
@[simp] theorem raise_rxbuf (f : ErrFlag) : (s.raise f).rxbuf = s.rxbuf := rfl
@[simp] theorem raise_txq (f : ErrFlag) : (s.raise f).txq = s.txq := rfl
@[simp] theorem raise_rxq (f : ErrFlag) : (s.raise f).rxq = s.rxq := rfl
@[simp] theorem raise_answer (f : ErrFlag) : (s.raise f).answer = s.answer := rfl
@[simp] theorem raise_pending (f : ErrFlag) : (s.raise f).pending = s.pending := rfl

@[simp] theorem refuse_inst (f : ErrFlag) : (s.refuse f).inst = s.inst := rfl
@[simp] theorem refuse_crcPoly (f : ErrFlag) : (s.refuse f).crcPoly = s.crcPoly := rfl
@[simp] theorem refuse_crcInit (f : ErrFlag) : (s.refuse f).crcInit = s.crcInit := rfl
@[simp] theorem refuse_crcXorout (f : ErrFlag) : (s.refuse f).crcXorout = s.crcXorout := rfl
@[simp] theorem refuse_crcAcc (f : ErrFlag) : (s.refuse f).crcAcc = s.crcAcc := rfl
@[simp] theorem refuse_ctrl (f : ErrFlag) : (s.refuse f).ctrl = s.ctrl := rfl
@[simp] theorem refuse_err (f : ErrFlag) : (s.refuse f).err = s.err ||| f.mask := rfl
@[simp] theorem refuse_txState (f : ErrFlag) : (s.refuse f).txState = s.txState := rfl
@[simp] theorem refuse_txSize (f : ErrFlag) : (s.refuse f).txSize = s.txSize := rfl
@[simp] theorem refuse_txbuf (f : ErrFlag) : (s.refuse f).txbuf = s.txbuf := rfl
@[simp] theorem refuse_txWritten (f : ErrFlag) : (s.refuse f).txWritten = s.txWritten := rfl
@[simp] theorem refuse_rxState (f : ErrFlag) : (s.refuse f).rxState = s.rxState := rfl
@[simp] theorem refuse_rxOk (f : ErrFlag) : (s.refuse f).rxOk = s.rxOk := rfl
@[simp] theorem refuse_rxExpect (f : ErrFlag) : (s.refuse f).rxExpect = s.rxExpect := rfl
@[simp] theorem refuse_rxCount (f : ErrFlag) : (s.refuse f).rxCount = s.rxCount := rfl
@[simp] theorem refuse_rxIter (f : ErrFlag) : (s.refuse f).rxIter = s.rxIter := rfl
@[simp] theorem refuse_rxType (f : ErrFlag) : (s.refuse f).rxType = s.rxType := rfl
@[simp] theorem refuse_rxDecl (f : ErrFlag) : (s.refuse f).rxDecl = s.rxDecl := rfl
@[simp] theorem refuse_rxPlen (f : ErrFlag) : (s.refuse f).rxPlen = s.rxPlen := rfl
@[simp] theorem refuse_rxbuf (f : ErrFlag) : (s.refuse f).rxbuf = s.rxbuf := rfl
@[simp] theorem refuse_txq (f : ErrFlag) : (s.refuse f).txq = s.txq := rfl
@[simp] theorem refuse_rxq (f : ErrFlag) : (s.refuse f).rxq = s.rxq := rfl
@[simp] theorem refuse_answer (f : ErrFlag) : (s.refuse f).answer = some ⟨0, true⟩ := rfl
@[simp] theorem refuse_pending (f : ErrFlag) : (s.refuse f).pending = s.pending := rfl

@[simp] theorem clearErr_inst (v : BitVec 5) : (s.clearErr v).inst = s.inst := rfl
@[simp] theorem clearErr_crcPoly (v : BitVec 5) : (s.clearErr v).crcPoly = s.crcPoly := rfl
@[simp] theorem clearErr_crcInit (v : BitVec 5) : (s.clearErr v).crcInit = s.crcInit := rfl
@[simp] theorem clearErr_crcXorout (v : BitVec 5) : (s.clearErr v).crcXorout = s.crcXorout := rfl
@[simp] theorem clearErr_crcAcc (v : BitVec 5) : (s.clearErr v).crcAcc = s.crcAcc := rfl
@[simp] theorem clearErr_ctrl (v : BitVec 5) : (s.clearErr v).ctrl = s.ctrl := rfl
@[simp] theorem clearErr_err (v : BitVec 5) : (s.clearErr v).err = s.err &&& ~~~v := rfl
@[simp] theorem clearErr_txState (v : BitVec 5) : (s.clearErr v).txState = s.txState := rfl
@[simp] theorem clearErr_txSize (v : BitVec 5) : (s.clearErr v).txSize = s.txSize := rfl
@[simp] theorem clearErr_txbuf (v : BitVec 5) : (s.clearErr v).txbuf = s.txbuf := rfl
@[simp] theorem clearErr_txWritten (v : BitVec 5) : (s.clearErr v).txWritten = s.txWritten := rfl
@[simp] theorem clearErr_rxState (v : BitVec 5) : (s.clearErr v).rxState = s.rxState := rfl
@[simp] theorem clearErr_rxOk (v : BitVec 5) : (s.clearErr v).rxOk = s.rxOk := rfl
@[simp] theorem clearErr_rxExpect (v : BitVec 5) : (s.clearErr v).rxExpect = s.rxExpect := rfl
@[simp] theorem clearErr_rxCount (v : BitVec 5) : (s.clearErr v).rxCount = s.rxCount := rfl
@[simp] theorem clearErr_rxIter (v : BitVec 5) : (s.clearErr v).rxIter = s.rxIter := rfl
@[simp] theorem clearErr_rxType (v : BitVec 5) : (s.clearErr v).rxType = s.rxType := rfl
@[simp] theorem clearErr_rxDecl (v : BitVec 5) : (s.clearErr v).rxDecl = s.rxDecl := rfl
@[simp] theorem clearErr_rxPlen (v : BitVec 5) : (s.clearErr v).rxPlen = s.rxPlen := rfl
@[simp] theorem clearErr_rxbuf (v : BitVec 5) : (s.clearErr v).rxbuf = s.rxbuf := rfl
@[simp] theorem clearErr_txq (v : BitVec 5) : (s.clearErr v).txq = s.txq := rfl
@[simp] theorem clearErr_rxq (v : BitVec 5) : (s.clearErr v).rxq = s.rxq := rfl
@[simp] theorem clearErr_answer (v : BitVec 5) : (s.clearErr v).answer = s.answer := rfl
@[simp] theorem clearErr_pending (v : BitVec 5) : (s.clearErr v).pending = s.pending := rfl

@[simp] theorem runChecksum_inst (bs : List Byte) : (s.runChecksum bs).inst = s.inst := rfl
@[simp] theorem runChecksum_crcPoly (bs : List Byte) : (s.runChecksum bs).crcPoly = s.crcPoly := rfl
@[simp] theorem runChecksum_crcInit (bs : List Byte) : (s.runChecksum bs).crcInit = s.crcInit := rfl
@[simp] theorem runChecksum_crcXorout (bs : List Byte) : (s.runChecksum bs).crcXorout = s.crcXorout := rfl
@[simp] theorem runChecksum_crcAcc (bs : List Byte) : (s.runChecksum bs).crcAcc = s.rawSum bs := rfl
@[simp] theorem runChecksum_ctrl (bs : List Byte) : (s.runChecksum bs).ctrl = s.ctrl := rfl
@[simp] theorem runChecksum_err (bs : List Byte) : (s.runChecksum bs).err = s.err := rfl
@[simp] theorem runChecksum_txState (bs : List Byte) : (s.runChecksum bs).txState = s.txState := rfl
@[simp] theorem runChecksum_txSize (bs : List Byte) : (s.runChecksum bs).txSize = s.txSize := rfl
@[simp] theorem runChecksum_txbuf (bs : List Byte) : (s.runChecksum bs).txbuf = s.txbuf := rfl
@[simp] theorem runChecksum_txWritten (bs : List Byte) : (s.runChecksum bs).txWritten = s.txWritten := rfl
@[simp] theorem runChecksum_rxState (bs : List Byte) : (s.runChecksum bs).rxState = s.rxState := rfl
@[simp] theorem runChecksum_rxOk (bs : List Byte) : (s.runChecksum bs).rxOk = s.rxOk := rfl
@[simp] theorem runChecksum_rxExpect (bs : List Byte) : (s.runChecksum bs).rxExpect = s.rxExpect := rfl
@[simp] theorem runChecksum_rxCount (bs : List Byte) : (s.runChecksum bs).rxCount = s.rxCount := rfl
@[simp] theorem runChecksum_rxIter (bs : List Byte) : (s.runChecksum bs).rxIter = s.rxIter := rfl
@[simp] theorem runChecksum_rxType (bs : List Byte) : (s.runChecksum bs).rxType = s.rxType := rfl
@[simp] theorem runChecksum_rxDecl (bs : List Byte) : (s.runChecksum bs).rxDecl = s.rxDecl := rfl
@[simp] theorem runChecksum_rxPlen (bs : List Byte) : (s.runChecksum bs).rxPlen = s.rxPlen := rfl
@[simp] theorem runChecksum_rxbuf (bs : List Byte) : (s.runChecksum bs).rxbuf = s.rxbuf := rfl
@[simp] theorem runChecksum_txq (bs : List Byte) : (s.runChecksum bs).txq = s.txq := rfl
@[simp] theorem runChecksum_rxq (bs : List Byte) : (s.runChecksum bs).rxq = s.rxq := rfl
@[simp] theorem runChecksum_answer (bs : List Byte) : (s.runChecksum bs).answer = s.answer := rfl
@[simp] theorem runChecksum_pending (bs : List Byte) : (s.runChecksum bs).pending = s.pending := rfl

@[simp] theorem dropSeal_inst : (s.dropSeal).inst = s.inst := rfl
@[simp] theorem dropSeal_crcPoly : (s.dropSeal).crcPoly = s.crcPoly := rfl
@[simp] theorem dropSeal_crcInit : (s.dropSeal).crcInit = s.crcInit := rfl
@[simp] theorem dropSeal_crcXorout : (s.dropSeal).crcXorout = s.crcXorout := rfl
@[simp] theorem dropSeal_crcAcc : (s.dropSeal).crcAcc = s.crcAcc := rfl
@[simp] theorem dropSeal_ctrl : (s.dropSeal).ctrl = s.ctrl := rfl
@[simp] theorem dropSeal_err : (s.dropSeal).err = s.err := rfl
@[simp] theorem dropSeal_txState : (s.dropSeal).txState = if s.txState = .sealed then .opened else s.txState := rfl
@[simp] theorem dropSeal_txSize : (s.dropSeal).txSize = s.txSize := rfl
@[simp] theorem dropSeal_txbuf : (s.dropSeal).txbuf = s.txbuf := rfl
@[simp] theorem dropSeal_txWritten : (s.dropSeal).txWritten = s.txWritten := rfl
@[simp] theorem dropSeal_rxState : (s.dropSeal).rxState = s.rxState := rfl
@[simp] theorem dropSeal_rxOk : (s.dropSeal).rxOk = s.rxOk := rfl
@[simp] theorem dropSeal_rxExpect : (s.dropSeal).rxExpect = s.rxExpect := rfl
@[simp] theorem dropSeal_rxCount : (s.dropSeal).rxCount = s.rxCount := rfl
@[simp] theorem dropSeal_rxIter : (s.dropSeal).rxIter = s.rxIter := rfl
@[simp] theorem dropSeal_rxType : (s.dropSeal).rxType = s.rxType := rfl
@[simp] theorem dropSeal_rxDecl : (s.dropSeal).rxDecl = s.rxDecl := rfl
@[simp] theorem dropSeal_rxPlen : (s.dropSeal).rxPlen = s.rxPlen := rfl
@[simp] theorem dropSeal_rxbuf : (s.dropSeal).rxbuf = s.rxbuf := rfl
@[simp] theorem dropSeal_txq : (s.dropSeal).txq = s.txq := rfl
@[simp] theorem dropSeal_rxq : (s.dropSeal).rxq = s.rxq := rfl
@[simp] theorem dropSeal_answer : (s.dropSeal).answer = s.answer := rfl
@[simp] theorem dropSeal_pending : (s.dropSeal).pending = s.pending := rfl

@[simp] theorem writeTx_inst (a : Nat) (bs : List Byte) : (s.writeTx a bs).inst = s.inst := rfl
@[simp] theorem writeTx_crcPoly (a : Nat) (bs : List Byte) : (s.writeTx a bs).crcPoly = s.crcPoly := rfl
@[simp] theorem writeTx_crcInit (a : Nat) (bs : List Byte) : (s.writeTx a bs).crcInit = s.crcInit := rfl
@[simp] theorem writeTx_crcXorout (a : Nat) (bs : List Byte) : (s.writeTx a bs).crcXorout = s.crcXorout := rfl
@[simp] theorem writeTx_crcAcc (a : Nat) (bs : List Byte) : (s.writeTx a bs).crcAcc = s.crcAcc := rfl
@[simp] theorem writeTx_ctrl (a : Nat) (bs : List Byte) : (s.writeTx a bs).ctrl = s.ctrl := rfl
@[simp] theorem writeTx_err (a : Nat) (bs : List Byte) : (s.writeTx a bs).err = s.err := rfl
@[simp] theorem writeTx_txState (a : Nat) (bs : List Byte) : (s.writeTx a bs).txState = s.txState := rfl
@[simp] theorem writeTx_txSize (a : Nat) (bs : List Byte) : (s.writeTx a bs).txSize = s.txSize := rfl
@[simp] theorem writeTx_txbuf (a : Nat) (bs : List Byte) : (s.writeTx a bs).txbuf = s.txbuf.writeBytes a bs := rfl
@[simp] theorem writeTx_txWritten (a : Nat) (bs : List Byte) :
    (s.writeTx a bs).txWritten = recordWrites s.txWritten a bs.length := rfl
@[simp] theorem writeTx_rxState (a : Nat) (bs : List Byte) : (s.writeTx a bs).rxState = s.rxState := rfl
@[simp] theorem writeTx_rxOk (a : Nat) (bs : List Byte) : (s.writeTx a bs).rxOk = s.rxOk := rfl
@[simp] theorem writeTx_rxExpect (a : Nat) (bs : List Byte) : (s.writeTx a bs).rxExpect = s.rxExpect := rfl
@[simp] theorem writeTx_rxCount (a : Nat) (bs : List Byte) : (s.writeTx a bs).rxCount = s.rxCount := rfl
@[simp] theorem writeTx_rxIter (a : Nat) (bs : List Byte) : (s.writeTx a bs).rxIter = s.rxIter := rfl
@[simp] theorem writeTx_rxType (a : Nat) (bs : List Byte) : (s.writeTx a bs).rxType = s.rxType := rfl
@[simp] theorem writeTx_rxDecl (a : Nat) (bs : List Byte) : (s.writeTx a bs).rxDecl = s.rxDecl := rfl
@[simp] theorem writeTx_rxPlen (a : Nat) (bs : List Byte) : (s.writeTx a bs).rxPlen = s.rxPlen := rfl
@[simp] theorem writeTx_rxbuf (a : Nat) (bs : List Byte) : (s.writeTx a bs).rxbuf = s.rxbuf := rfl
@[simp] theorem writeTx_txq (a : Nat) (bs : List Byte) : (s.writeTx a bs).txq = s.txq := rfl
@[simp] theorem writeTx_rxq (a : Nat) (bs : List Byte) : (s.writeTx a bs).rxq = s.rxq := rfl
@[simp] theorem writeTx_answer (a : Nat) (bs : List Byte) : (s.writeTx a bs).answer = s.answer := rfl
@[simp] theorem writeTx_pending (a : Nat) (bs : List Byte) : (s.writeTx a bs).pending = s.pending := rfl

@[simp] theorem memWriteTx_inst (a n v : Nat) : (s.memWriteTx a n v).inst = s.inst := rfl
@[simp] theorem memWriteTx_crcPoly (a n v : Nat) : (s.memWriteTx a n v).crcPoly = s.crcPoly := rfl
@[simp] theorem memWriteTx_crcInit (a n v : Nat) : (s.memWriteTx a n v).crcInit = s.crcInit := rfl
@[simp] theorem memWriteTx_crcXorout (a n v : Nat) : (s.memWriteTx a n v).crcXorout = s.crcXorout := rfl
@[simp] theorem memWriteTx_crcAcc (a n v : Nat) : (s.memWriteTx a n v).crcAcc = s.crcAcc := rfl
@[simp] theorem memWriteTx_ctrl (a n v : Nat) : (s.memWriteTx a n v).ctrl = s.ctrl := rfl
@[simp] theorem memWriteTx_err (a n v : Nat) : (s.memWriteTx a n v).err = s.err := rfl
@[simp] theorem memWriteTx_txState (a n v : Nat) : (s.memWriteTx a n v).txState = s.txState := rfl
@[simp] theorem memWriteTx_txSize (a n v : Nat) : (s.memWriteTx a n v).txSize = s.txSize := rfl
@[simp] theorem memWriteTx_txbuf (a n v : Nat) : (s.memWriteTx a n v).txbuf = s.txbuf.memWrite a n v := rfl
@[simp] theorem memWriteTx_txWritten (a n v : Nat) :
    (s.memWriteTx a n v).txWritten = recordWrites s.txWritten a (littleEndian n v).length := rfl
@[simp] theorem memWriteTx_rxState (a n v : Nat) : (s.memWriteTx a n v).rxState = s.rxState := rfl
@[simp] theorem memWriteTx_rxOk (a n v : Nat) : (s.memWriteTx a n v).rxOk = s.rxOk := rfl
@[simp] theorem memWriteTx_rxExpect (a n v : Nat) : (s.memWriteTx a n v).rxExpect = s.rxExpect := rfl
@[simp] theorem memWriteTx_rxCount (a n v : Nat) : (s.memWriteTx a n v).rxCount = s.rxCount := rfl
@[simp] theorem memWriteTx_rxIter (a n v : Nat) : (s.memWriteTx a n v).rxIter = s.rxIter := rfl
@[simp] theorem memWriteTx_rxType (a n v : Nat) : (s.memWriteTx a n v).rxType = s.rxType := rfl
@[simp] theorem memWriteTx_rxDecl (a n v : Nat) : (s.memWriteTx a n v).rxDecl = s.rxDecl := rfl
@[simp] theorem memWriteTx_rxPlen (a n v : Nat) : (s.memWriteTx a n v).rxPlen = s.rxPlen := rfl
@[simp] theorem memWriteTx_rxbuf (a n v : Nat) : (s.memWriteTx a n v).rxbuf = s.rxbuf := rfl
@[simp] theorem memWriteTx_txq (a n v : Nat) : (s.memWriteTx a n v).txq = s.txq := rfl
@[simp] theorem memWriteTx_rxq (a n v : Nat) : (s.memWriteTx a n v).rxq = s.rxq := rfl
@[simp] theorem memWriteTx_answer (a n v : Nat) : (s.memWriteTx a n v).answer = s.answer := rfl
@[simp] theorem memWriteTx_pending (a n v : Nat) : (s.memWriteTx a n v).pending = s.pending := rfl

@[simp] theorem openFrame_inst (opc : Byte) (k : Nat) : (s.openFrame opc k).inst = s.inst := rfl
@[simp] theorem openFrame_crcPoly (opc : Byte) (k : Nat) : (s.openFrame opc k).crcPoly = s.crcPoly := rfl
@[simp] theorem openFrame_crcInit (opc : Byte) (k : Nat) : (s.openFrame opc k).crcInit = s.crcInit := rfl
@[simp] theorem openFrame_crcXorout (opc : Byte) (k : Nat) : (s.openFrame opc k).crcXorout = s.crcXorout := rfl
@[simp] theorem openFrame_crcAcc (opc : Byte) (k : Nat) : (s.openFrame opc k).crcAcc = s.crcAcc := rfl
@[simp] theorem openFrame_ctrl (opc : Byte) (k : Nat) : (s.openFrame opc k).ctrl = s.ctrl := rfl
@[simp] theorem openFrame_err (opc : Byte) (k : Nat) : (s.openFrame opc k).err = s.err := rfl
@[simp] theorem openFrame_txState (opc : Byte) (k : Nat) : (s.openFrame opc k).txState = .opened := rfl
@[simp] theorem openFrame_txSize (opc : Byte) (k : Nat) :
    (s.openFrame opc k).txSize = BitVec.ofNat 5 (Config.frameBase + 2 * k) := rfl
@[simp] theorem openFrame_txbuf (opc : Byte) (k : Nat) :
    (s.openFrame opc k).txbuf = s.txbuf.writeBytes 0 (openedFrame s.inst.cmdStartMark opc k) := rfl
@[simp] theorem openFrame_txWritten (opc : Byte) (k : Nat) :
    (s.openFrame opc k).txWritten = recordWrites [] 0 (openedFrame s.inst.cmdStartMark opc k).length := rfl
@[simp] theorem openFrame_rxState (opc : Byte) (k : Nat) : (s.openFrame opc k).rxState = s.rxState := rfl
@[simp] theorem openFrame_rxOk (opc : Byte) (k : Nat) : (s.openFrame opc k).rxOk = s.rxOk := rfl
@[simp] theorem openFrame_rxExpect (opc : Byte) (k : Nat) : (s.openFrame opc k).rxExpect = s.rxExpect := rfl
@[simp] theorem openFrame_rxCount (opc : Byte) (k : Nat) : (s.openFrame opc k).rxCount = s.rxCount := rfl
@[simp] theorem openFrame_rxIter (opc : Byte) (k : Nat) : (s.openFrame opc k).rxIter = s.rxIter := rfl
@[simp] theorem openFrame_rxType (opc : Byte) (k : Nat) : (s.openFrame opc k).rxType = s.rxType := rfl
@[simp] theorem openFrame_rxDecl (opc : Byte) (k : Nat) : (s.openFrame opc k).rxDecl = s.rxDecl := rfl
@[simp] theorem openFrame_rxPlen (opc : Byte) (k : Nat) : (s.openFrame opc k).rxPlen = s.rxPlen := rfl
@[simp] theorem openFrame_rxbuf (opc : Byte) (k : Nat) : (s.openFrame opc k).rxbuf = s.rxbuf := rfl
@[simp] theorem openFrame_txq (opc : Byte) (k : Nat) : (s.openFrame opc k).txq = s.txq := rfl
@[simp] theorem openFrame_rxq (opc : Byte) (k : Nat) : (s.openFrame opc k).rxq = s.rxq := rfl
@[simp] theorem openFrame_answer (opc : Byte) (k : Nat) : (s.openFrame opc k).answer = s.answer := rfl
@[simp] theorem openFrame_pending (opc : Byte) (k : Nat) : (s.openFrame opc k).pending = s.pending := rfl

@[simp] theorem putPayload_inst (off n v : Nat) : (s.putPayload off n v).inst = s.inst := rfl
@[simp] theorem putPayload_crcPoly (off n v : Nat) : (s.putPayload off n v).crcPoly = s.crcPoly := rfl
@[simp] theorem putPayload_crcInit (off n v : Nat) : (s.putPayload off n v).crcInit = s.crcInit := rfl
@[simp] theorem putPayload_crcXorout (off n v : Nat) : (s.putPayload off n v).crcXorout = s.crcXorout := rfl
@[simp] theorem putPayload_crcAcc (off n v : Nat) : (s.putPayload off n v).crcAcc = s.crcAcc := rfl
@[simp] theorem putPayload_ctrl (off n v : Nat) : (s.putPayload off n v).ctrl = s.ctrl := rfl
@[simp] theorem putPayload_err (off n v : Nat) : (s.putPayload off n v).err = s.err := rfl
@[simp] theorem putPayload_txState (off n v : Nat) : (s.putPayload off n v).txState = .opened := rfl
@[simp] theorem putPayload_txSize (off n v : Nat) : (s.putPayload off n v).txSize = s.txSize := rfl
@[simp] theorem putPayload_txbuf (off n v : Nat) : (s.putPayload off n v).txbuf = s.txbuf.memWrite off n v := rfl
@[simp] theorem putPayload_txWritten (off n v : Nat) :
    (s.putPayload off n v).txWritten = recordWrites s.txWritten off (littleEndian n v).length := rfl
@[simp] theorem putPayload_rxState (off n v : Nat) : (s.putPayload off n v).rxState = s.rxState := rfl
@[simp] theorem putPayload_rxOk (off n v : Nat) : (s.putPayload off n v).rxOk = s.rxOk := rfl
@[simp] theorem putPayload_rxExpect (off n v : Nat) : (s.putPayload off n v).rxExpect = s.rxExpect := rfl
@[simp] theorem putPayload_rxCount (off n v : Nat) : (s.putPayload off n v).rxCount = s.rxCount := rfl
@[simp] theorem putPayload_rxIter (off n v : Nat) : (s.putPayload off n v).rxIter = s.rxIter := rfl
@[simp] theorem putPayload_rxType (off n v : Nat) : (s.putPayload off n v).rxType = s.rxType := rfl
@[simp] theorem putPayload_rxDecl (off n v : Nat) : (s.putPayload off n v).rxDecl = s.rxDecl := rfl
@[simp] theorem putPayload_rxPlen (off n v : Nat) : (s.putPayload off n v).rxPlen = s.rxPlen := rfl
@[simp] theorem putPayload_rxbuf (off n v : Nat) : (s.putPayload off n v).rxbuf = s.rxbuf := rfl
@[simp] theorem putPayload_txq (off n v : Nat) : (s.putPayload off n v).txq = s.txq := rfl
@[simp] theorem putPayload_rxq (off n v : Nat) : (s.putPayload off n v).rxq = s.rxq := rfl
@[simp] theorem putPayload_answer (off n v : Nat) : (s.putPayload off n v).answer = s.answer := rfl
@[simp] theorem putPayload_pending (off n v : Nat) : (s.putPayload off n v).pending = s.pending := rfl

@[simp] theorem sealFrame_inst : (s.sealFrame).inst = s.inst := rfl
@[simp] theorem sealFrame_crcPoly : (s.sealFrame).crcPoly = s.crcPoly := rfl
@[simp] theorem sealFrame_crcInit : (s.sealFrame).crcInit = s.crcInit := rfl
@[simp] theorem sealFrame_crcXorout : (s.sealFrame).crcXorout = s.crcXorout := rfl
@[simp] theorem sealFrame_crcAcc : (s.sealFrame).crcAcc = s.rawSum s.coveredBytes := rfl
@[simp] theorem sealFrame_ctrl : (s.sealFrame).ctrl = s.ctrl := rfl
@[simp] theorem sealFrame_err : (s.sealFrame).err = s.err := rfl
@[simp] theorem sealFrame_txState : (s.sealFrame).txState = .sealed := rfl
@[simp] theorem sealFrame_txSize : (s.sealFrame).txSize = s.txSize := rfl
@[simp] theorem sealFrame_txbuf :
    (s.sealFrame).txbuf = s.txbuf.memWrite s.trailerAt Config.crcLen (s.checksum s.coveredBytes).toNat := rfl
@[simp] theorem sealFrame_txWritten :
    (s.sealFrame).txWritten = recordWrites s.txWritten s.trailerAt Config.crcLen := rfl
@[simp] theorem sealFrame_rxState : (s.sealFrame).rxState = s.rxState := rfl
@[simp] theorem sealFrame_rxOk : (s.sealFrame).rxOk = s.rxOk := rfl
@[simp] theorem sealFrame_rxExpect : (s.sealFrame).rxExpect = s.rxExpect := rfl
@[simp] theorem sealFrame_rxCount : (s.sealFrame).rxCount = s.rxCount := rfl
@[simp] theorem sealFrame_rxIter : (s.sealFrame).rxIter = s.rxIter := rfl
@[simp] theorem sealFrame_rxType : (s.sealFrame).rxType = s.rxType := rfl
@[simp] theorem sealFrame_rxDecl : (s.sealFrame).rxDecl = s.rxDecl := rfl
@[simp] theorem sealFrame_rxPlen : (s.sealFrame).rxPlen = s.rxPlen := rfl
@[simp] theorem sealFrame_rxbuf : (s.sealFrame).rxbuf = s.rxbuf := rfl
@[simp] theorem sealFrame_txq : (s.sealFrame).txq = s.txq := rfl
@[simp] theorem sealFrame_rxq : (s.sealFrame).rxq = s.rxq := rfl
@[simp] theorem sealFrame_answer : (s.sealFrame).answer = s.answer := rfl
@[simp] theorem sealFrame_pending : (s.sealFrame).pending = s.pending := rfl

@[simp] theorem noResult_inst : (s.noResult).inst = s.inst := rfl
@[simp] theorem noResult_crcPoly : (s.noResult).crcPoly = s.crcPoly := rfl
@[simp] theorem noResult_crcInit : (s.noResult).crcInit = s.crcInit := rfl
@[simp] theorem noResult_crcXorout : (s.noResult).crcXorout = s.crcXorout := rfl
@[simp] theorem noResult_crcAcc : (s.noResult).crcAcc = s.crcAcc := rfl
@[simp] theorem noResult_ctrl : (s.noResult).ctrl = s.ctrl := rfl
@[simp] theorem noResult_err : (s.noResult).err = s.err := rfl
@[simp] theorem noResult_txState : (s.noResult).txState = s.txState := rfl
@[simp] theorem noResult_txSize : (s.noResult).txSize = s.txSize := rfl
@[simp] theorem noResult_txbuf : (s.noResult).txbuf = s.txbuf := rfl
@[simp] theorem noResult_txWritten : (s.noResult).txWritten = s.txWritten := rfl
@[simp] theorem noResult_rxState : (s.noResult).rxState = s.rxState := rfl
@[simp] theorem noResult_rxOk : (s.noResult).rxOk = false := rfl
@[simp] theorem noResult_rxExpect : (s.noResult).rxExpect = s.rxExpect := rfl
@[simp] theorem noResult_rxCount : (s.noResult).rxCount = s.rxCount := rfl
@[simp] theorem noResult_rxIter : (s.noResult).rxIter = s.rxIter := rfl
@[simp] theorem noResult_rxType : (s.noResult).rxType = s.inst.failType := rfl
@[simp] theorem noResult_rxDecl : (s.noResult).rxDecl = 0 := rfl
@[simp] theorem noResult_rxPlen : (s.noResult).rxPlen = 0 := rfl
@[simp] theorem noResult_rxbuf : (s.noResult).rxbuf = s.rxbuf := rfl
@[simp] theorem noResult_txq : (s.noResult).txq = s.txq := rfl
@[simp] theorem noResult_rxq : (s.noResult).rxq = s.rxq := rfl
@[simp] theorem noResult_answer : (s.noResult).answer = s.answer := rfl
@[simp] theorem noResult_pending : (s.noResult).pending = s.pending := rfl

@[simp] theorem acceptResponse_inst : (s.acceptResponse).inst = s.inst := rfl
@[simp] theorem acceptResponse_crcPoly : (s.acceptResponse).crcPoly = s.crcPoly := rfl
@[simp] theorem acceptResponse_crcInit : (s.acceptResponse).crcInit = s.crcInit := rfl
@[simp] theorem acceptResponse_crcXorout : (s.acceptResponse).crcXorout = s.crcXorout := rfl
@[simp] theorem acceptResponse_crcAcc : (s.acceptResponse).crcAcc = s.crcAcc := rfl
@[simp] theorem acceptResponse_ctrl : (s.acceptResponse).ctrl = s.ctrl := rfl
@[simp] theorem acceptResponse_err : (s.acceptResponse).err = s.err := rfl
@[simp] theorem acceptResponse_txState : (s.acceptResponse).txState = s.txState := rfl
@[simp] theorem acceptResponse_txSize : (s.acceptResponse).txSize = s.txSize := rfl
@[simp] theorem acceptResponse_txbuf : (s.acceptResponse).txbuf = s.txbuf := rfl
@[simp] theorem acceptResponse_txWritten : (s.acceptResponse).txWritten = s.txWritten := rfl
@[simp] theorem acceptResponse_rxState : (s.acceptResponse).rxState = .done := rfl
@[simp] theorem acceptResponse_rxOk : (s.acceptResponse).rxOk = true := rfl
@[simp] theorem acceptResponse_rxExpect : (s.acceptResponse).rxExpect = s.rxExpect := rfl
@[simp] theorem acceptResponse_rxCount : (s.acceptResponse).rxCount = s.rxCount := rfl
@[simp] theorem acceptResponse_rxIter : (s.acceptResponse).rxIter = s.rxIter := rfl
@[simp] theorem acceptResponse_rxType : (s.acceptResponse).rxType = s.rxbuf.read 1 := rfl
@[simp] theorem acceptResponse_rxDecl : (s.acceptResponse).rxDecl = BitVec.ofNat 16 s.declared := rfl
@[simp] theorem acceptResponse_rxPlen :
    (s.acceptResponse).rxPlen = BitVec.ofNat 16 (min s.declared (s.rxCount.toNat - Config.rspOverhead)) := rfl
@[simp] theorem acceptResponse_rxbuf : (s.acceptResponse).rxbuf = s.rxbuf := rfl
@[simp] theorem acceptResponse_txq : (s.acceptResponse).txq = s.txq := rfl
@[simp] theorem acceptResponse_rxq : (s.acceptResponse).rxq = s.rxq := rfl
@[simp] theorem acceptResponse_answer : (s.acceptResponse).answer = s.answer := rfl
@[simp] theorem acceptResponse_pending : (s.acceptResponse).pending = s.pending := rfl

@[simp] theorem failResponse_inst : (s.failResponse).inst = s.inst := rfl
@[simp] theorem failResponse_crcPoly : (s.failResponse).crcPoly = s.crcPoly := rfl
@[simp] theorem failResponse_crcInit : (s.failResponse).crcInit = s.crcInit := rfl
@[simp] theorem failResponse_crcXorout : (s.failResponse).crcXorout = s.crcXorout := rfl
@[simp] theorem failResponse_crcAcc : (s.failResponse).crcAcc = s.crcAcc := rfl
@[simp] theorem failResponse_ctrl : (s.failResponse).ctrl = s.ctrl := rfl
@[simp] theorem failResponse_err : (s.failResponse).err = s.err := rfl
@[simp] theorem failResponse_txState : (s.failResponse).txState = s.txState := rfl
@[simp] theorem failResponse_txSize : (s.failResponse).txSize = s.txSize := rfl
@[simp] theorem failResponse_txbuf : (s.failResponse).txbuf = s.txbuf := rfl
@[simp] theorem failResponse_txWritten : (s.failResponse).txWritten = s.txWritten := rfl
@[simp] theorem failResponse_rxState : (s.failResponse).rxState = .done := rfl
@[simp] theorem failResponse_rxOk : (s.failResponse).rxOk = false := rfl
@[simp] theorem failResponse_rxExpect : (s.failResponse).rxExpect = s.rxExpect := rfl
@[simp] theorem failResponse_rxCount : (s.failResponse).rxCount = s.rxCount := rfl
@[simp] theorem failResponse_rxIter : (s.failResponse).rxIter = s.rxIter := rfl
@[simp] theorem failResponse_rxType : (s.failResponse).rxType = s.inst.failType := rfl
@[simp] theorem failResponse_rxDecl : (s.failResponse).rxDecl = 0 := rfl
@[simp] theorem failResponse_rxPlen : (s.failResponse).rxPlen = 0 := rfl
@[simp] theorem failResponse_rxbuf : (s.failResponse).rxbuf = s.rxbuf := rfl
@[simp] theorem failResponse_txq : (s.failResponse).txq = s.txq := rfl
@[simp] theorem failResponse_rxq : (s.failResponse).rxq = s.rxq := rfl
@[simp] theorem failResponse_answer : (s.failResponse).answer = s.answer := rfl
@[simp] theorem failResponse_pending : (s.failResponse).pending = s.pending := rfl

@[simp] theorem poll_inst : (poll s).inst = s.inst := rfl
@[simp] theorem poll_crcPoly : (poll s).crcPoly = s.crcPoly := rfl
@[simp] theorem poll_crcInit : (poll s).crcInit = s.crcInit := rfl
@[simp] theorem poll_crcXorout : (poll s).crcXorout = s.crcXorout := rfl
@[simp] theorem poll_crcAcc : (poll s).crcAcc = s.crcAcc := rfl
@[simp] theorem poll_ctrl : (poll s).ctrl = s.ctrl := rfl
@[simp] theorem poll_err : (poll s).err = s.err := rfl
@[simp] theorem poll_txState : (poll s).txState = s.txState := rfl
@[simp] theorem poll_txSize : (poll s).txSize = s.txSize := rfl
@[simp] theorem poll_txbuf : (poll s).txbuf = s.txbuf := rfl
@[simp] theorem poll_txWritten : (poll s).txWritten = s.txWritten := rfl
@[simp] theorem poll_rxState : (poll s).rxState = s.rxState := rfl
@[simp] theorem poll_rxOk : (poll s).rxOk = s.rxOk := rfl
@[simp] theorem poll_rxExpect : (poll s).rxExpect = s.rxExpect := rfl
@[simp] theorem poll_rxCount : (poll s).rxCount = s.rxCount + BitVec.ofNat 17 s.pollTake := rfl
@[simp] theorem poll_rxIter : (poll s).rxIter = s.rxIter + 1 := rfl
@[simp] theorem poll_rxType : (poll s).rxType = s.rxType := rfl
@[simp] theorem poll_rxDecl : (poll s).rxDecl = s.rxDecl := rfl
@[simp] theorem poll_rxPlen : (poll s).rxPlen = s.rxPlen := rfl
@[simp] theorem poll_rxbuf : (poll s).rxbuf = s.rxbuf.writeBytes s.rxCount.toNat (s.rxq.take s.pollTake) := rfl
@[simp] theorem poll_txq : (poll s).txq = s.txq := rfl
@[simp] theorem poll_rxq : (poll s).rxq = s.rxq.drop s.pollTake := rfl
@[simp] theorem poll_answer : (poll s).answer = s.answer := rfl
@[simp] theorem poll_pending : (poll s).pending = s.pending := rfl

@[simp] theorem rxPush_inst (bs : List Byte) : (rxPush bs s).inst = s.inst := rfl
@[simp] theorem rxPush_crcPoly (bs : List Byte) : (rxPush bs s).crcPoly = s.crcPoly := rfl
@[simp] theorem rxPush_crcInit (bs : List Byte) : (rxPush bs s).crcInit = s.crcInit := rfl
@[simp] theorem rxPush_crcXorout (bs : List Byte) : (rxPush bs s).crcXorout = s.crcXorout := rfl
@[simp] theorem rxPush_crcAcc (bs : List Byte) : (rxPush bs s).crcAcc = s.crcAcc := rfl
@[simp] theorem rxPush_ctrl (bs : List Byte) : (rxPush bs s).ctrl = s.ctrl := rfl
@[simp] theorem rxPush_err (bs : List Byte) : (rxPush bs s).err = s.err := rfl
@[simp] theorem rxPush_txState (bs : List Byte) : (rxPush bs s).txState = s.txState := rfl
@[simp] theorem rxPush_txSize (bs : List Byte) : (rxPush bs s).txSize = s.txSize := rfl
@[simp] theorem rxPush_txbuf (bs : List Byte) : (rxPush bs s).txbuf = s.txbuf := rfl
@[simp] theorem rxPush_txWritten (bs : List Byte) : (rxPush bs s).txWritten = s.txWritten := rfl
@[simp] theorem rxPush_rxState (bs : List Byte) : (rxPush bs s).rxState = s.rxState := rfl
@[simp] theorem rxPush_rxOk (bs : List Byte) : (rxPush bs s).rxOk = s.rxOk := rfl
@[simp] theorem rxPush_rxExpect (bs : List Byte) : (rxPush bs s).rxExpect = s.rxExpect := rfl
@[simp] theorem rxPush_rxCount (bs : List Byte) : (rxPush bs s).rxCount = s.rxCount := rfl
@[simp] theorem rxPush_rxIter (bs : List Byte) : (rxPush bs s).rxIter = s.rxIter := rfl
@[simp] theorem rxPush_rxType (bs : List Byte) : (rxPush bs s).rxType = s.rxType := rfl
@[simp] theorem rxPush_rxDecl (bs : List Byte) : (rxPush bs s).rxDecl = s.rxDecl := rfl
@[simp] theorem rxPush_rxPlen (bs : List Byte) : (rxPush bs s).rxPlen = s.rxPlen := rfl
@[simp] theorem rxPush_rxbuf (bs : List Byte) : (rxPush bs s).rxbuf = s.rxbuf := rfl
@[simp] theorem rxPush_txq (bs : List Byte) : (rxPush bs s).txq = s.txq := rfl
@[simp] theorem rxPush_rxq (bs : List Byte) : (rxPush bs s).rxq = s.rxq ++ bs := rfl
@[simp] theorem rxPush_answer (bs : List Byte) : (rxPush bs s).answer = s.answer := rfl
@[simp] theorem rxPush_pending (bs : List Byte) : (rxPush bs s).pending = s.pending := rfl

@[simp] theorem txPop_inst : (txPop s).inst = s.inst := rfl
@[simp] theorem txPop_crcPoly : (txPop s).crcPoly = s.crcPoly := rfl
@[simp] theorem txPop_crcInit : (txPop s).crcInit = s.crcInit := rfl
@[simp] theorem txPop_crcXorout : (txPop s).crcXorout = s.crcXorout := rfl
@[simp] theorem txPop_crcAcc : (txPop s).crcAcc = s.crcAcc := rfl
@[simp] theorem txPop_ctrl : (txPop s).ctrl = s.ctrl := rfl
@[simp] theorem txPop_err : (txPop s).err = s.err := rfl
@[simp] theorem txPop_txState : (txPop s).txState = s.txState := rfl
@[simp] theorem txPop_txSize : (txPop s).txSize = s.txSize := rfl
@[simp] theorem txPop_txbuf : (txPop s).txbuf = s.txbuf := rfl
@[simp] theorem txPop_txWritten : (txPop s).txWritten = s.txWritten := rfl
@[simp] theorem txPop_rxState : (txPop s).rxState = s.rxState := rfl
@[simp] theorem txPop_rxOk : (txPop s).rxOk = s.rxOk := rfl
@[simp] theorem txPop_rxExpect : (txPop s).rxExpect = s.rxExpect := rfl
@[simp] theorem txPop_rxCount : (txPop s).rxCount = s.rxCount := rfl
@[simp] theorem txPop_rxIter : (txPop s).rxIter = s.rxIter := rfl
@[simp] theorem txPop_rxType : (txPop s).rxType = s.rxType := rfl
@[simp] theorem txPop_rxDecl : (txPop s).rxDecl = s.rxDecl := rfl
@[simp] theorem txPop_rxPlen : (txPop s).rxPlen = s.rxPlen := rfl
@[simp] theorem txPop_rxbuf : (txPop s).rxbuf = s.rxbuf := rfl
@[simp] theorem txPop_txq : (txPop s).txq = s.txq.tail := rfl
@[simp] theorem txPop_rxq : (txPop s).rxq = s.rxq := rfl
@[simp] theorem txPop_answer : (txPop s).answer = s.answer := rfl
@[simp] theorem txPop_pending : (txPop s).pending = s.pending := rfl

@[simp] theorem withFetchWord_inst (nbits w : Nat) : (s.withFetchWord nbits w).inst = s.inst := rfl
@[simp] theorem withFetchWord_crcPoly (nbits w : Nat) : (s.withFetchWord nbits w).crcPoly = s.crcPoly := rfl
@[simp] theorem withFetchWord_crcInit (nbits w : Nat) : (s.withFetchWord nbits w).crcInit = s.crcInit := rfl
@[simp] theorem withFetchWord_crcXorout (nbits w : Nat) : (s.withFetchWord nbits w).crcXorout = s.crcXorout := rfl
@[simp] theorem withFetchWord_crcAcc (nbits w : Nat) : (s.withFetchWord nbits w).crcAcc = s.crcAcc := rfl
@[simp] theorem withFetchWord_ctrl (nbits w : Nat) : (s.withFetchWord nbits w).ctrl = s.ctrl := rfl
@[simp] theorem withFetchWord_err (nbits w : Nat) : (s.withFetchWord nbits w).err = s.err := rfl
@[simp] theorem withFetchWord_txState (nbits w : Nat) : (s.withFetchWord nbits w).txState = s.txState := rfl
@[simp] theorem withFetchWord_txSize (nbits w : Nat) : (s.withFetchWord nbits w).txSize = s.txSize := rfl
@[simp] theorem withFetchWord_txbuf (nbits w : Nat) : (s.withFetchWord nbits w).txbuf = s.txbuf := rfl
@[simp] theorem withFetchWord_txWritten (nbits w : Nat) : (s.withFetchWord nbits w).txWritten = s.txWritten := rfl
@[simp] theorem withFetchWord_rxState (nbits w : Nat) : (s.withFetchWord nbits w).rxState = s.rxState := rfl
@[simp] theorem withFetchWord_rxOk (nbits w : Nat) : (s.withFetchWord nbits w).rxOk = s.rxOk := rfl
@[simp] theorem withFetchWord_rxExpect (nbits w : Nat) : (s.withFetchWord nbits w).rxExpect = s.rxExpect := rfl
@[simp] theorem withFetchWord_rxCount (nbits w : Nat) : (s.withFetchWord nbits w).rxCount = s.rxCount := rfl
@[simp] theorem withFetchWord_rxIter (nbits w : Nat) : (s.withFetchWord nbits w).rxIter = s.rxIter := rfl
@[simp] theorem withFetchWord_rxType (nbits w : Nat) : (s.withFetchWord nbits w).rxType = s.rxType := rfl
@[simp] theorem withFetchWord_rxDecl (nbits w : Nat) : (s.withFetchWord nbits w).rxDecl = s.rxDecl := rfl
@[simp] theorem withFetchWord_rxPlen (nbits w : Nat) : (s.withFetchWord nbits w).rxPlen = s.rxPlen := rfl
@[simp] theorem withFetchWord_rxbuf (nbits w : Nat) : (s.withFetchWord nbits w).rxbuf = s.rxbuf := rfl
@[simp] theorem withFetchWord_txq (nbits w : Nat) : (s.withFetchWord nbits w).txq = s.txq := rfl
@[simp] theorem withFetchWord_rxq (nbits w : Nat) : (s.withFetchWord nbits w).rxq = s.rxq := rfl
@[simp] theorem withFetchWord_answer (nbits w : Nat) : (s.withFetchWord nbits w).answer = s.answer := rfl
@[simp] theorem withFetchWord_pending (nbits w : Nat) :
    (s.withFetchWord nbits w).pending = tableWordEvent nbits w :: s.pending := rfl

end Sys2Proof.Machine
end

