-- ==== Sys2Proof/Laws/Ops.lean ====
section
/-! SUPPORT. What each shared operation can do, said once: checks, answers, the checksum run, the register read. -/

namespace Sys2Proof.Machine

/-- A check that fails refuses, and nothing after it happens. -/
theorem refuseIf_pos {c : Prop} [Decidable c] (h : c) (f : ErrFlag) (s : State)
    (go : Host.Outcome State Fault Refusal) : refuseIf c f s go = .next (s.refuse f) := if_pos h

/-- A check that holds changes nothing. -/
theorem refuseIf_neg {c : Prop} [Decidable c] (h : ¬c) (f : ErrFlag) (s : State)
    (go : Host.Outcome State Fault Refusal) : refuseIf c f s go = go := if_neg h

/-- Everything a check can do. -/
theorem refuseIf_cases {c : Prop} [Decidable c] {f : ErrFlag} {s t : State} {go : Host.Outcome State Fault Refusal}
    (h : refuseIf c f s go = .next t) : (c ∧ t = s.refuse f) ∨ (¬c ∧ go = .next t) := by
  by_cases hc : c
  · rw [refuseIf_pos hc] at h; cases h; exact .inl ⟨hc, rfl⟩
  · rw [refuseIf_neg hc] at h; exact .inr ⟨hc, h⟩

theorem unlessBusy_active {s : State} (h : s.rxState = .active) (go : Host.Outcome State Fault Refusal) :
    unlessBusy s go = .next (s.refuse .busy) := refuseIf_pos h _ _ _

theorem unlessBusy_free {s : State} (h : s.rxState ≠ .active) (go : Host.Outcome State Fault Refusal) :
    unlessBusy s go = go := refuseIf_neg h _ _ _

/-- Everything the common check can do. -/
theorem unlessBusy_cases {s t : State} {go : Host.Outcome State Fault Refusal} (h : unlessBusy s go = .next t) :
    (s.rxState = .active ∧ t = s.refuse .busy) ∨ (s.rxState ≠ .active ∧ go = .next t) := refuseIf_cases h

theorem complete_next {s t : State} (h : complete s = .next t) : t = s.reply 0 := by
  cases h; rfl

theorem answerWith_next {v : Word} {s t : State} (h : answerWith v s = .next t) : t = s.reply v := by
  cases h; rfl

/-- A check goes on to a next state if what follows does. -/
theorem refuseIf_goes_on {c : Prop} [Decidable c] {f : ErrFlag} {s : State} {go : Host.Outcome State Fault Refusal}
    (h : ∃ t, go = .next t) : ∃ t, refuseIf c f s go = .next t := by
  by_cases hc : c
  · exact ⟨_, refuseIf_pos hc _ _ _⟩
  · rw [refuseIf_neg hc]; exact h

theorem unlessBusy_goes_on {s : State} {go : Host.Outcome State Fault Refusal}
    (h : ∃ t, go = .next t) : ∃ t, unlessBusy s go = .next t := refuseIf_goes_on h

/-- The registers are exactly the numbers up to 0x0F (R34). -/
theorem readReg_isSome_iff (s : State) (r : Nat) : (s.readReg r).isSome ↔ r ≤ 0x0F := by
  constructor
  · intro h
    unfold State.readReg at h
    split at h <;> simp_all
  · intro h
    interval_cases r <;> rfl

/-- A register above 0x0F does not exist (R34). -/
theorem readReg_none {s : State} {r : Nat} (h : 0x0F < r) : s.readReg r = none := by
  have := (readReg_isSome_iff s r).not.2 (by omega)
  simpa using this

/-- Everything `fold` can be, by `CRC_FOLD` (R81). -/
theorem foldByte_msb8 (poly acc : Word) (b : Byte) : foldByte .msb8 poly acc b = foldMsb8 poly acc b := rfl

theorem foldByte_word32 (poly acc : Word) (b : Byte) : foldByte .word32 poly acc b = foldWord32 poly acc b := rfl

/-- The checksum of a sequence is the checksum of a prefix carried on (the loop of R84). -/
theorem foldBytes_append (fold : Config.Fold) (poly acc : Word) (bs cs : List Byte) :
    foldBytes fold poly acc (bs ++ cs) = foldBytes fold poly (foldBytes fold poly acc bs) cs := by
  simp [foldBytes]

theorem crcSteps_add (poly : Word) (m n : Nat) (acc : Word) :
    crcSteps poly (m + n) acc = crcSteps poly n (crcSteps poly m acc) := by
  induction m generalizing acc with
  | zero => simp [crcSteps]
  | succ m ih => rw [Nat.add_right_comm]; exact ih _

/-- Everything the sequencer's step can do. -/
theorem sequencerStep_cases (s : State) :
    (s.rxState ≠ .active ∧ sequencerStep s = s) ∨
    (s.pollEnabled = true ∧ sequencerStep s = poll s) ∨
    (s.pollEnabled = false ∧ s.rxState = .active ∧ sequencerStep s = finish s) := by
  unfold sequencerStep
  cases hp : s.pollEnabled
  · by_cases ha : s.rxState = .active
    · exact .inr (.inr ⟨rfl, ha, by simp [State.completeEnabled, ha, hp]⟩)
    · exact .inl ⟨ha, by simp [State.completeEnabled, ha]⟩
  · exact .inr (.inl ⟨rfl, by simp⟩)

theorem pollEnabled_active {s : State} (h : s.pollEnabled = true) : s.rxState = .active := by
  simp [State.pollEnabled] at h; exact h.1.1

/-- When a poll is enabled (R124), in numbers. -/
theorem pollEnabled_iff (s : State) : s.pollEnabled = true ↔
    s.rxState = .active ∧ s.rxCount.toNat < s.rxExpect.toNat + 8 ∧ s.rxIter.toNat < s.inst.retryBudget.toNat := by
  simp only [State.pollEnabled, Bool.and_eq_true, decide_eq_true_eq, and_assoc]
  exact Iff.rfl

/-- The four validation checks of R125 come to two: the size check implies two of them. -/
theorem responseValid_iff (s : State) :
    s.responseValid = true ↔ 8 ≤ s.rxCount.toNat ∧ s.rxbuf.read 0 = s.inst.rspStartMark := by
  simp only [State.responseValid, Bool.and_eq_true, decide_eq_true_eq, beq_iff_eq, bne_iff_ne]
  constructor
  · rintro ⟨⟨⟨-, h⟩, -⟩, h8⟩
    exact ⟨h8, h⟩
  · rintro ⟨h8, h⟩
    exact ⟨⟨⟨by omega, h⟩, le_trans (by decide) h8⟩, h8⟩

/-- Everything `RX.COMPLETE` can do. -/
theorem finish_cases (s : State) :
    (s.responseValid = false ∧ finish s = s.failResponse) ∨
    (s.responseValid = true ∧ s.rxCrcEn = false ∧ finish s = s.acceptResponse) ∨
    (s.responseValid = true ∧ s.rxCrcEn = true ∧ s.trailerPresent = true ∧ s.trailerMatches = true ∧
      finish s = (s.runChecksum s.responseCovered).acceptResponse) ∨
    (s.responseValid = true ∧ s.rxCrcEn = true ∧ s.trailerPresent = true ∧ s.trailerMatches = false ∧
      finish s = ((s.runChecksum s.responseCovered).raise .rxcrc).failResponse) ∨
    (s.responseValid = true ∧ s.rxCrcEn = true ∧ s.trailerPresent = false ∧
      finish s = (s.raise .rxcrc).failResponse) := by
  unfold finish State.verifyResponse
  cases s.responseValid <;> cases s.rxCrcEn <;> cases s.trailerPresent <;> cases s.trailerMatches <;> simp

/-- A step with nothing scheduled is the sequencer's. -/
theorem step_unscheduled {s : State} (h : s.pending = []) : step s = .next (sequencerStep s) := by
  unfold step; rw [h]; rfl

/-- A step with something scheduled is that. -/
theorem step_scheduled {s : State} {e : Event} {rest : List Event} (h : s.pending = e :: rest) :
    step s = takeEvent e { s with pending := rest } := by
  unfold step; rw [h]

/-- The first of several steps of a run. -/
theorem run_succ (M : Host.Core) {n : Nat} {s u : M.State} (h : M.step s = .next u) :
    M.run (n + 1) s = M.run n u := by
  simp [Host.Core.run, h]

end Sys2Proof.Machine
end

