-- ==== Sys2Proof/Laws/PerInstr.lean ====
section
/-! SUPPORT. Statements made per instruction: every operation's word is an instance of its row of the opcode table. -/

namespace Sys2Proof.Laws.EncodesInItsRow

/-- The word of `i` is an instance of `i`'s row (R63), whatever its operands. -/
def Statement (i : Instr) : Prop := encode i &&& i.tableRow.mask = i.tableRow.pattern

/-- Masking an encoded operation with the fields of a mask. -/
theorem masked {i : Instr} (m p : Fields) (hm : i.tableRow.mask = m.word) (hp : i.tableRow.pattern = p.word)
    (h : (⟨i.fields.op &&& m.op, i.fields.a &&& m.a, i.fields.h &&& m.h, i.fields.d &&& m.d⟩ : Fields) = p) :
    Statement i := by
  rw [Statement, encode, hm, hp, Fields.and_word, h]

theorem crcInit : Statement .crcInit := by unfold Statement; decide
theorem crcByte (b : Byte) : Statement (.crcByte b) :=
  masked ⟨0xFF, 0xFF, 0xFF00, 0xFFFFFFFF⟩ ⟨0x02, 0, 0, 0⟩ rfl rfl (by simp [Instr.fields, lowHalf_and])
theorem crcRead : Statement .crcRead := by unfold Statement; decide
theorem crcRuntx (n : Nat) : Statement (.crcRuntx n) :=
  masked ⟨0xFF, 0xFF, 0, 0xFFFFFFFF⟩ ⟨0x04, 0, 0, 0⟩ rfl rfl (by simp [Instr.fields])
theorem crcRunrx (n : Nat) : Statement (.crcRunrx n) :=
  masked ⟨0xFF, 0xFF, 0xFFFF, 0⟩ ⟨0x05, 0, 0, 0⟩ rfl rfl (by simp [Instr.fields])
theorem frmOpen (opc : Byte) (k : Nat) : Statement (.frmOpen opc k) :=
  masked ⟨0xFF, 0, 0xFF00, 0xFFFFFFFF⟩ ⟨0x10, 0, 0, 0⟩ rfl rfl (by simp [Instr.fields, lowHalf_and])
theorem frmPut8 (off : Nat) (v : Byte) : Statement (.frmPut8 off v) :=
  masked ⟨0xFF, 0, 0xFF00, 0xFFFFFFFF⟩ ⟨0x11, 0, 0, 0⟩ rfl rfl (by simp [Instr.fields, lowHalf_and])
theorem frmPut16u (off : Nat) (v : BitVec 16) : Statement (.frmPut16u off v) :=
  masked ⟨0xFF, 0, 0, 0xFFFFFFFF⟩ ⟨0x12, 0, 0, 0⟩ rfl rfl (by simp [Instr.fields])
theorem frmPut16s (off : Nat) (v : Int) : Statement (.frmPut16s off v) :=
  masked ⟨0xFF, 0, 0, 0xFFFFFFFF⟩ ⟨0x13, 0, 0, 0⟩ rfl rfl (by simp [Instr.fields])
theorem frmSeal : Statement .frmSeal := by unfold Statement; decide
theorem frmSend : Statement .frmSend := by unfold Statement; decide
theorem frmGet (off : Nat) : Statement (.frmGet off) :=
  masked ⟨0xFF, 0, 0xFFFF, 0xFFFFFFFF⟩ ⟨0x16, 0, 0, 0⟩ rfl rfl (by simp [Instr.fields])
theorem rxStart (e : Nat) : Statement (.rxStart e) :=
  masked ⟨0xFF, 0xFF, 0, 0xFFFFFFFF⟩ ⟨0x20, 0, 0, 0⟩ rfl rfl (by simp [Instr.fields])
theorem rxGet (idx : Nat) : Statement (.rxGet idx) :=
  masked ⟨0xFF, 0xFF, 0, 0xFFFFFFFF⟩ ⟨0x21, 0, 0, 0⟩ rfl rfl (by simp [Instr.fields])
theorem rxRaw (idx : Nat) : Statement (.rxRaw idx) :=
  masked ⟨0xFF, 0xFF, 0xFFFF, 0⟩ ⟨0x22, 0, 0, 0⟩ rfl rfl (by simp [Instr.fields])
theorem cfgRd (r : Nat) : Statement (.cfgRd r) :=
  masked ⟨0xFF, 0, 0xFFFF, 0xFFFFFFFF⟩ ⟨0x30, 0, 0, 0⟩ rfl rfl (by simp [Instr.fields])
theorem cfgWr (r : Nat) (v : Word) : Statement (.cfgWr r v) :=
  masked ⟨0xFF, 0, 0xFFFF, 0⟩ ⟨0x31, 0, 0, 0⟩ rfl rfl (by simp [Instr.fields])

end Sys2Proof.Laws.EncodesInItsRow
end

