-- ==== Sys2Proof/Tests/Slice0.lean ====
section
/-! SUPPORT. The model's own tests: ill-formed operations, words written out from R60 and R61, single steps with the values
of spec/95_test_vectors.md (named V<n> or P<n>), and for every statement with hypotheses a state that meets them. -/

namespace Sys2Proof.Tests
open Sys2Proof Sys2Proof.Machine

-- One test after another: elaborated side by side they ask for more threads than the memory limit of the check allows.
set_option Elab.async false

/-! ## Well-formedness: one ill-formed operation for each check -/

theorem test_ill_formed_runtx : (Instr.crcRuntx 65536).wellFormed = false := by decide
theorem test_ill_formed_runrx : (Instr.crcRunrx 4294967296).wellFormed = false := by decide
theorem test_ill_formed_open : (Instr.frmOpen 0x0D 256).wellFormed = false := by decide
theorem test_ill_formed_put8 : (Instr.frmPut8 256 1).wellFormed = false := by decide
theorem test_ill_formed_put16u : (Instr.frmPut16u 256 1).wellFormed = false := by decide
theorem test_ill_formed_put16s_offset : (Instr.frmPut16s 256 1).wellFormed = false := by decide
theorem test_ill_formed_put16s_high : (Instr.frmPut16s 2 32768).wellFormed = false := by decide
theorem test_ill_formed_put16s_low : (Instr.frmPut16s 2 (-32769)).wellFormed = false := by decide
theorem test_ill_formed_get : (Instr.frmGet 256).wellFormed = false := by decide
theorem test_ill_formed_start : (Instr.rxStart 65536).wellFormed = false := by decide
theorem test_ill_formed_rx_get : (Instr.rxGet 65536).wellFormed = false := by decide
theorem test_ill_formed_raw : (Instr.rxRaw 4294967296).wellFormed = false := by decide
theorem test_ill_formed_rd : (Instr.cfgRd 256).wellFormed = false := by decide
theorem test_ill_formed_wr : (Instr.cfgWr 256 1).wellFormed = false := by decide

/-! ## Decoding: op, a, h, d written out from R60 and R61 -/

theorem test_decode_crc_init : decode (0b00000001#8 ++ 0#8 ++ 0#16 ++ 0#32) = .ok .crcInit := by decide
theorem test_decode_crc_byte : decode (0b00000010#8 ++ 0#8 ++ 0x0031#16 ++ 0#32) = .ok (.crcByte 0x31) := by decide
theorem test_decode_crc_read : decode (0b00000011#8 ++ 0#8 ++ 0#16 ++ 0#32) = .ok .crcRead := by decide
theorem test_decode_crc_runtx : decode (0b00000100#8 ++ 0#8 ++ 0x000A#16 ++ 0#32) = .ok (.crcRuntx 10) := by decide
theorem test_decode_crc_runrx : decode (0b00000101#8 ++ 0#8 ++ 0#16 ++ 0x00010007#32) = .ok (.crcRunrx 65543) := by
  decide
theorem test_decode_frm_open : decode (0b00010000#8 ++ 0x0D#8 ++ 0x0004#16 ++ 0#32) = .ok (.frmOpen 0x0D 4) := by decide
theorem test_decode_frm_put8 : decode (0b00010001#8 ++ 0x09#8 ++ 0x00AB#16 ++ 0#32) = .ok (.frmPut8 9 0xAB) := by decide
theorem test_decode_frm_put16u : decode (0b00010010#8 ++ 0x08#8 ++ 0x1234#16 ++ 0#32) = .ok (.frmPut16u 8 0x1234) := by
  decide
theorem test_decode_frm_put16s : decode (0b00010011#8 ++ 0x04#8 ++ 0x8000#16 ++ 0#32) = .ok (.frmPut16s 4 (-32768)) := by
  decide
theorem test_decode_frm_seal : decode (0b00010100#8 ++ 0#8 ++ 0#16 ++ 0#32) = .ok .frmSeal := by decide
theorem test_decode_frm_send : decode (0b00010101#8 ++ 0#8 ++ 0#16 ++ 0#32) = .ok .frmSend := by decide
theorem test_decode_frm_get : decode (0b00010110#8 ++ 0x0D#8 ++ 0#16 ++ 0#32) = .ok (.frmGet 13) := by decide
theorem test_decode_rx_start : decode (0b00100000#8 ++ 0#8 ++ 0x9650#16 ++ 0#32) = .ok (.rxStart 38480) := by decide
theorem test_decode_rx_get : decode (0b00100001#8 ++ 0#8 ++ 0xFFFE#16 ++ 0#32) = .ok (.rxGet 65534) := by decide
theorem test_decode_rx_raw : decode (0b00100010#8 ++ 0#8 ++ 0#16 ++ 0x00010006#32) = .ok (.rxRaw 65542) := by decide
theorem test_decode_cfg_rd : decode (0b00110000#8 ++ 0x0F#8 ++ 0#16 ++ 0#32) = .ok (.cfgRd 0x0F) := by decide
theorem test_decode_cfg_wr : decode (0b00110001#8 ++ 0x02#8 ++ 0#16 ++ 0xFFFFFFFF#32) = .ok (.cfgWr 2 0xFFFFFFFF) := by
  decide

/-- R64: the all-zero word and op 0xFF (V41, V42). -/
theorem test_illegal_op :
    decode 0 = .error (.undefinedOperation 0) ∧ decode 0xFF00000000000000 = .error (.undefinedOperation 0xFF) := by decide
/-- R61: a bit in an unused field or an unused half (V8, V20, V37, V41). -/
theorem test_illegal_unused :
    decode 0x0200013100000000 = .error (.unusedFieldNotZero 0x02) ∧
    decode 0x0100000000000001 = .error (.unusedFieldNotZero 0x01) ∧
    decode 0x1001010000000000 = .error (.unusedFieldNotZero 0x10) ∧
    decode 0x2001000000000000 = .error (.unusedFieldNotZero 0x20) ∧
    decode 0x3000010000000000 = .error (.unusedFieldNotZero 0x30) := by decide
/-- The table's bit 0 is bit 0 of `W`. -/
theorem test_table_word : decodeTableWord 64 0x11090000AB00000000 = none ∧
    decodeTableWord 64 0x110900AB00000000 = some (.frmPut8 9 0xAB) ∧ decodeTableWord 64 0 = none := by decide

/-! ## States for the tests (instance parameters of 95_test_vectors.md, `RETRY_BUDGET = 3`) -/

/-- The example instance. -/
def example8 : Config.Params := ⟨0xF5, 0xFA, .msb8, 3, 0xFF⟩
/-- The same with the other fold. -/
def example32 : Config.Params := { example8 with crcFold := .word32 }
/-- After reset, both queues empty. -/
def fresh : State := State.resetFor example8 [] []
/-- After reset, the other fold. -/
def fresh32 : State := State.resetFor example32 [] []
/-- The state after one operation. -/
def after (i : Instr) (s : State) : State :=
  match exec i s with
  | .next t => t
  | _ => s
/-- The outcome is this next state. -/
def isNext (o : Host.Outcome State Fault Refusal) (t : State) : Bool :=
  match o with
  | .next u => decide (u = t)
  | _ => false
/-- What `isNext` says. -/
theorem eq_next {o : Host.Outcome State Fault Refusal} {t : State} (h : isNext o t = true) : o = .next t := by
  cases o with
  | next u => rw [of_decide_eq_true h]
  | fault r => cases h
  | refused r => cases h
/-- The answer of one operation. -/
def answerTo (i : Instr) (s : State) : Option Answer := (after i s).answer
/-- The first bytes of the transmit buffer. -/
def frame (s : State) : List Byte := s.txbuf.readBytes 0 s.txSize.toNat
/-- P1 up to its second step. -/
def opened (s : State) : State := after (.frmPut8 2 1) (after (.frmOpen 0x0D 0) s)
/-- P1 up to its third step. -/
def sealedFrame (s : State) : State := after .frmSeal (opened s)
/-- A reassembly toward `e + 8` bytes has begun, and `bs` wait. -/
def reading (s : State) (e : Nat) (bs : List Byte) : State := { after (.rxStart e) s with rxq := bs }
/-- A reassembly whose first poll completes it. -/
def received (s : State) (e : Nat) (bs : List Byte) : State := sequencerStep (sequencerStep (reading s e bs))
/-- The response of V16 and V30 h: three payload bytes, a checksum that is none, two bytes too many. -/
def response : List Byte := [0xFA, 3, 3, 0, 0xAA, 0xBB, 0xCC, 1, 2, 3, 4, 0x99, 0x98]
/-- V34: the response with its checksum (`MSB8`). -/
def checkedResponse : List Byte := [0xFA, 3, 3, 0, 0xAA, 0xBB, 0xCC, 0x75, 0x43, 0x9E, 0xF5]
/-- V35: one payload bit flipped. -/
def brokenResponse : List Byte := [0xFA, 3, 3, 0, 0xAA, 0xBA, 0xCC, 0x75, 0x43, 0x9E, 0xF5]
/-- Verification of responses switched on. -/
def verifying : State := after (.cfgWr 4 1) fresh
/-- A state with its schedule. -/
def scheduled (s : State) (es : List Event) : State := { s with pending := es }

/-! ## The checksum functions -/

/-- V1. -/
theorem test_crc_step : crcStep 0x04C11DB7 0x80000000 = 0x04C11DB7 ∧ crcStep 0x04C11DB7 0x40000000 = 0x80000000 ∧
    crcStep 0x04C11DB7 0xFFFFFFFF = 0xFB3EE249 := by decide
/-- V2, V3: the nine bytes "123456789", both folds. -/
theorem test_checksum_nine :
    fresh.checksum [0x31, 0x32, 0x33, 0x34, 0x35, 0x36, 0x37, 0x38, 0x39] = 0x0376E6E7 ∧
    fresh32.checksum [0x31, 0x32, 0x33, 0x34, 0x35, 0x36, 0x37, 0x38, 0x39] = 0x1556F485 := by decide +kernel

/-! ## Single operations -/

/-- V8: the seed again after a byte. -/
theorem test_crc_init : (after .crcInit (after (.crcByte 0x31) fresh)).crcAcc = 0xFFFFFFFF := by decide +kernel
/-- V8, `MSB8`. -/
theorem test_crc_byte : (after (.crcByte 0x31) fresh).crcAcc = 0x9EFBCF93 := by decide +kernel
/-- V8, `WORD32`. -/
theorem test_crc_byte_word32 : (after (.crcByte 0x31) fresh32).crcAcc = 0x17F7AD5C := by decide +kernel
/-- P8: the final XOR at read-out only. -/
theorem test_crc_read : answerTo .crcRead { fresh with crcAcc := 0x0376E6E7, crcXorout := 0xFFFFFFFF } =
    some ⟨0xFC891918, false⟩ := by decide
/-- V14. -/
theorem test_crc_runtx : answerTo (.crcRuntx 10) (opened fresh) = some ⟨0x49C19EFA, false⟩ ∧
    answerTo (.crcRuntx 10) (opened fresh32) = some ⟨0xC8D43A9D, false⟩ := by decide +kernel
/-- V14: past the frame. -/
theorem test_crc_runtx_range : answerTo (.crcRuntx 15) (opened fresh) = some ⟨0, true⟩ ∧
    (after (.crcRuntx 15) (opened fresh)).err = 8 := by decide +kernel
/-- V16. -/
theorem test_crc_runrx : answerTo (.crcRunrx 7) (received fresh 3 response) = some ⟨0xF59E4375, false⟩ ∧
    answerTo (.crcRunrx 7) (received fresh32 3 response) = some ⟨0xE8DF6095, false⟩ := by decide +kernel
/-- V20, P2: the largest frame. -/
theorem test_frm_open : frame (after (.frmOpen 2 4) (sealedFrame fresh)) = [0xF5, 2] ++ List.replicate 20 0 := by
  decide +kernel
/-- V20: `k = 5`. -/
theorem test_frm_open_range : after (.frmOpen 1 5) fresh = { fresh with err := 8, answer := some ⟨0, true⟩ } := by decide
/-- V21: the last payload byte is written, the first trailer byte is not. -/
theorem test_frm_put8 : (after (.frmPut8 9 0xAB) (opened fresh)).txbuf.read 9 = 0xAB ∧
    (after (.frmPut8 10 0xAB) (opened fresh)).err = 8 := by decide +kernel
/-- V22: three writes, one at an odd offset. -/
theorem test_frm_put16u : frame (after (.frmPut16u 8 0x1234) (after (.frmPut16u 3 0x1234) (after (.frmPut16u 2 0x1234)
    (after (.frmOpen 1 0) fresh)))) = [0xF5, 1, 0x34, 0x34, 0x12, 0, 0, 0, 0x34, 0x12, 0, 0, 0, 0] := by decide +kernel
/-- V22: the second byte would be a trailer byte. -/
theorem test_frm_put16u_range : after (.frmPut16u 9 0x1234) (opened fresh) =
    { opened fresh with err := 8, answer := some ⟨0, true⟩ } := by decide +kernel
/-- V23. -/
theorem test_frm_put16s : frame (after (.frmPut16s 4 (-32768)) (after (.frmPut16s 2 (-2)) (after (.frmOpen 8 0) fresh))) =
    [0xF5, 8, 0xFE, 0xFF, 0, 0x80, 0, 0, 0, 0, 0, 0, 0, 0] := by decide +kernel
/-- P1: the trailer, both folds. -/
theorem test_frm_seal : frame (sealedFrame fresh) = [0xF5, 0x0D, 1, 0, 0, 0, 0, 0, 0, 0, 0xFA, 0x9E, 0xC1, 0x49] ∧
    frame (sealedFrame fresh32) = [0xF5, 0x0D, 1, 0, 0, 0, 0, 0, 0, 0, 0x9D, 0x3A, 0xD4, 0xC8] := by decide +kernel
/-- V24: raw accumulator and answer differ by the final XOR. -/
theorem test_frm_seal_xorout : (sealedFrame { fresh with crcXorout := 0xFFFFFFFF }).answer = some ⟨0xB63E6105, false⟩ ∧
    (sealedFrame { fresh with crcXorout := 0xFFFFFFFF }).crcAcc = 0x49C19EFA := by decide +kernel
/-- V24: the frame twice. -/
theorem test_frm_send : (after .frmSend (after .frmSend (sealedFrame fresh))).txq =
    frame (sealedFrame fresh) ++ frame (sealedFrame fresh) := by decide +kernel
/-- V24: a frame that is not sealed. -/
theorem test_frm_send_open : after .frmSend (opened fresh) = { opened fresh with err := 4, answer := some ⟨0, true⟩ } := by
  decide +kernel
/-- P1: the high byte of the trailer. -/
theorem test_frm_get : answerTo (.frmGet 13) (sealedFrame fresh) = some ⟨0x49, false⟩ := by decide +kernel
/-- V27: past the frame. -/
theorem test_frm_get_range : (after (.frmGet 14) (sealedFrame fresh)).err = 8 := by decide +kernel
/-- V16: `STATUS = 04` after `RX.START`. -/
theorem test_rx_start : (after (.rxStart 3) fresh).status = 4 ∧ (after (.rxStart 65535) fresh).target = 65543 := by decide
/-- P4. -/
theorem test_rx_get : answerTo (.rxGet 2) (received fresh 3 response) = some ⟨0xCC, false⟩ ∧
    answerTo (.rxGet 3) (received fresh 3 response) = some ⟨0, true⟩ := by decide +kernel
/-- P4. -/
theorem test_rx_raw : answerTo (.rxRaw 12) (received fresh 3 response) = some ⟨0x98, false⟩ ∧
    answerTo (.rxRaw 13) (received fresh 3 response) = some ⟨0, true⟩ := by decide +kernel
/-- V40: `ID` for both folds; `RX_TYPE` and `RX_BUDGET` at reset. -/
theorem test_cfg_rd : answerTo (.cfgRd 0x0F) fresh = some ⟨0x0004FAF5, false⟩ ∧
    answerTo (.cfgRd 0x0F) fresh32 = some ⟨0x0104FAF5, false⟩ ∧ answerTo (.cfgRd 0x0B) fresh = some ⟨0xFF, false⟩ ∧
    answerTo (.cfgRd 0x0E) fresh = some ⟨3, false⟩ := by decide
/-- P9 step 11: `STATUS` of a sealed frame and a good response. -/
theorem test_cfg_rd_status : answerTo (.cfgRd 5) (received (sealedFrame fresh) 0 [0xFA, 0, 0, 0, 0xDE, 0xAD, 0xBE, 0xEF]) =
    some ⟨0x1A, false⟩ := by decide +kernel
/-- V24: a CRC register write drops the seal. -/
theorem test_cfg_wr_drops_seal : (after (.cfgWr 2 0xFFFFFFFF) (sealedFrame fresh)).txState = .opened := by decide +kernel
/-- V41: write one to clear. -/
theorem test_cfg_wr_err : (after (.cfgWr 6 4) { fresh with err := 0x0C }).err = 8 ∧
    (after (.cfgWr 6 0x20) { fresh with err := 4 }).err = 0x0C := by decide

/-! ## Sequencer, environment, reset -/

/-- V30 h: over-read. -/
theorem test_complete_over_read : (received fresh 3 response).status = 0x18 ∧ (received fresh 3 response).rxPlen = 3 ∧
    (received fresh 3 response).rxCount = 13 ∧ (received fresh 3 response).crcAcc = 0xFFFFFFFF := by decide +kernel
/-- V31: what comes after the loop stays in `RXQ`; the payload is cut. -/
theorem test_complete_truncated :
    (sequencerStep (rxPush [0xC0] (sequencerStep (reading fresh 2 [0xFA, 3, 6, 0, 1, 2, 3, 4, 5, 6])))).rxPlen = 2 ∧
    (sequencerStep (rxPush [0xC0] (sequencerStep (reading fresh 2 [0xFA, 3, 6, 0, 1, 2, 3, 4, 5, 6])))).rxq = [0xC0] := by
  decide +kernel
/-- V30 a: nothing arrives in three polls. -/
theorem test_complete_nothing :
    sequencerStep (sequencerStep (sequencerStep (sequencerStep (reading fresh 0 [])))) =
      { fresh with rxState := .done, rxIter := 3, answer := some ⟨0, false⟩ } := by decide +kernel
/-- V34: a checksum that holds. -/
theorem test_complete_verified : (received verifying 3 checkedResponse).rxOk = true ∧
    (received verifying 3 checkedResponse).crcAcc = 0xF59E4375 := by decide +kernel
/-- V35: one that does not. -/
theorem test_complete_broken : (received verifying 3 brokenResponse).err = 0x10 ∧
    (received verifying 3 brokenResponse).status = 8 ∧ (received verifying 3 brokenResponse).crcAcc = 0x278782A9 := by
  decide +kernel
/-- P6: the command marker is no response. -/
theorem test_complete_marker : (received fresh 0 [0xF5, 0, 0, 0, 0, 0, 0, 0]).rxType = 0xFF ∧
    (received fresh 0 [0xF5, 0, 0, 0, 0, 0, 0, 0]).status = 8 := by decide +kernel
/-- V42: an illegal word during a reassembly is `ILLEGAL`, not `BUSY`. -/
theorem test_priority : step (scheduled (reading fresh 0 []) [.host 0x2000000000000001]) =
    .next { reading fresh 0 [] with err := 1, answer := some ⟨0, true⟩ } := eq_next (by decide +kernel)
/-- The host's two entry points agree on a word. -/
theorem test_fetch : step (fresh.withFetchWord 64 0x100D000000000000) = .next (after (.frmOpen 0x0D 0) fresh) :=
  eq_next (by decide +kernel)

/-! ## Witnesses: for each statement with hypotheses, states and operands that meet them -/

theorem test_witness_DecodeInvertsEncode : (Instr.frmPut16s 255 (-32768)).wellFormed = true ∧
    (Instr.frmPut16s 0 32767).wellFormed = true ∧ (Instr.rxRaw 4294967295).wellFormed = true := by decide
theorem test_witness_EncodeInvertsDecode : decode 0x1302FFFE00000000 = .ok (.frmPut16s 2 (-2)) := by decide
theorem test_witness_LegalWordsAreTableInstances : decode 0x110900AB00000000 = .ok (.frmPut8 9 0xAB) ∧
    (∃ r ∈ opcodeTable, 0x110900AB00000000 &&& r.mask = r.pattern) ∧
    ¬∃ r ∈ opcodeTable, 0x110901AB00000000 &&& r.mask = r.pattern := by decide
theorem test_witness_StepRunsDecodedOperation :
    (scheduled fresh [.host 0x100D000000000000]).pending = .host 0x100D000000000000 :: [] ∧
    decode 0x100D000000000000 = .ok (.frmOpen 0x0D 0) := by decide
theorem test_witness_IllegalWordsAreRefused : (scheduled fresh [.host 0]).pending = .host 0 :: [] ∧
    ∀ r ∈ opcodeTable, (0 : OpWord) &&& r.mask ≠ r.pattern := by decide
theorem test_witness_BusyRefusesAllButCfgRd : (reading fresh 0 []).rxState = .active ∧
    (∀ r, Instr.frmSeal ≠ .cfgRd r) := ⟨by decide, fun _ => nofun⟩
theorem test_witness_RefusalSetsOneFlagOnly :
    (scheduled fresh [.host 0x1500000000000000]).pending = .host 0x1500000000000000 :: [] ∧
    step (scheduled fresh [.host 0x1500000000000000]) = .next { fresh with err := 4, answer := some ⟨0, true⟩ } :=
  ⟨by decide, eq_next (by decide +kernel)⟩
theorem test_witness_SeqRaisedExactlyWhereListed : (fresh.rxState ≠ .active ∧ fresh.txState = .empty) ∧
    ((opened fresh).rxState ≠ .active ∧ (opened fresh).txState ≠ .sealed) ∧ fresh.rxState ≠ .done ∧
    fresh.err &&& 4 = 0 ∧
    exec .frmSeal fresh = .next { fresh with err := fresh.err ||| 4, answer := some ⟨0, true⟩ } :=
  ⟨by decide, by decide +kernel, by decide, by decide, eq_next (by decide +kernel)⟩
/-- Each clause at the first operand it names: in a 14-byte frame offsets 1 and 10 (one byte), 9 (two bytes), 14, length 15;
13 bytes gathered, 3 of payload; registers 0x10, 0x03, values 2 and 32. -/
theorem test_witness_RangeRaisedExactlyWhereListed :
    (opened fresh).err &&& 8 = 0 ∧ (opened fresh).rxState ≠ .active ∧ (opened fresh).txState ≠ .empty ∧ (5 : Nat) > 4 ∧
    ((1 : Nat) < 2 ∧ 10 + 5 > (opened fresh).txSize.toNat) ∧ ¬(9 + 5 > (opened fresh).txSize.toNat) ∧
    9 + 1 + 5 > (opened fresh).txSize.toNat ∧ ¬(8 + 1 + 5 > (opened fresh).txSize.toNat) ∧
    14 ≥ (opened fresh).txSize.toNat ∧ 15 > (opened fresh).txSize.toNat ∧
    (received fresh 3 response).err &&& 8 = 0 ∧ (received fresh 3 response).rxState = .done ∧
    14 > (received fresh 3 response).rxCount.toNat ∧ 3 ≥ (received fresh 3 response).rxPlen.toNat ∧
    13 ≥ (received fresh 3 response).rxCount.toNat ∧ (0x10 : Nat) > 0x0F ∧
    3 ∉ [0x00, 0x01, 0x02, 0x04, 0x06] ∧ 2 ≤ (2#32).toNat ∧ 32 ≤ (32#32).toNat := by decide +kernel
theorem test_witness_ErrFlagsAreSticky :
    step (scheduled { fresh with err := 8 } [.host 0x1500000000000000]) =
      .next { fresh with err := 0x0C, answer := some ⟨0, true⟩ } ∧
    (scheduled { fresh with err := 8 } [.host 0x1500000000000000]).pending.head? ≠ some .reset ∧
    decode 0x1500000000000000 = .ok .frmSend := ⟨eq_next (by decide +kernel), by decide, by decide⟩
theorem test_witness_AcceptedOperationsLeaveErr : (∀ u, Instr.crcInit ≠ .cfgWr 0x06 u) ∧
    exec .crcInit { fresh with err := 8 } = .next { fresh with err := 8, answer := some ⟨0, false⟩ } :=
  ⟨fun _ => nofun, eq_next (by decide +kernel)⟩
theorem test_witness_ReadsHaveNoSideEffects : exec (.frmGet 1) (opened fresh) =
    .next { opened fresh with answer := some ⟨0x0D, false⟩ } ∧
    exec (.rxGet 0) fresh = .next { fresh with err := 4, answer := some ⟨0, true⟩ } :=
  ⟨eq_next (by decide +kernel), eq_next (by decide +kernel)⟩
theorem test_witness_HostCannotDisturbActiveReassembly :
    (scheduled (reading fresh 0 []) [.host 0x3009000000000000]).rxState = .active ∧
    step (scheduled (reading fresh 0 []) [.host 0x3009000000000000]) =
      .next { reading fresh 0 [] with answer := some ⟨0, false⟩ } := ⟨by decide, eq_next (by decide +kernel)⟩
theorem test_witness_ResetEventLoadsResetValues :
    (scheduled (reading fresh 0 []) [.reset]).pending = .reset :: [] := by decide
theorem test_witness_legal_parameters : example8.legal = true ∧ example32.legal = true := by decide
/-- A sealed frame and a delivered response meet the invariant; `FRM.SEND` comes next. Also for
`SentFramesCarryTheirChecksum`. -/
theorem test_witness_StepKeepsInvariant : (received (sealedFrame fresh) 3 response).Inv ∧
    step (scheduled (received (sealedFrame fresh) 3 response) [.host 0x1500000000000000]) =
      .next (after .frmSend (received (sealedFrame fresh) 3 response)) := by
  refine ⟨?_, eq_next (by decide +kernel)⟩
  constructor <;> decide +kernel
theorem test_witness_ReachableStatesMeetInvariant : example8.legal = true ∧
    Host.Core.run Sys2Proof.core 1 (State.start example8 [] [] [.host 0x100D000000000000]) =
      .next (after (.frmOpen 0x0D 0) fresh) :=
  ⟨by decide, eq_next (by decide +kernel)⟩
theorem test_witness_ParametersNeverChange : step fresh = .next fresh := eq_next (by decide +kernel)
theorem test_witness_EmptyAndIdleAreNeverReentered :
    step (scheduled (received (sealedFrame fresh) 3 response) [.host 0x2000000000000000]) =
      .next (after (.rxStart 0) (received (sealedFrame fresh) 3 response)) ∧
    (received (sealedFrame fresh) 3 response).txState ≠ .empty ∧
    (received (sealedFrame fresh) 3 response).rxState ≠ .idle :=
  ⟨eq_next (by decide +kernel), by decide +kernel, by decide +kernel⟩
/-- Both ways out of `ACTIVE`. -/
theorem test_witness_ActiveLeftOnlyByCompletionOrReset :
    (sequencerStep (reading fresh 3 response)).rxState = .active ∧
    step (sequencerStep (reading fresh 3 response)) = .next (received fresh 3 response) ∧
    (received fresh 3 response).rxState ≠ .active ∧
    step (scheduled (reading fresh 3 []) [.reset]) = .next { fresh with answer := some ⟨0, false⟩ } :=
  ⟨by decide +kernel, eq_next (by decide +kernel), by decide +kernel, eq_next (by decide +kernel)⟩
theorem test_witness_NothingEnabledChangesNothing : fresh.rxState ≠ .active ∧ fresh.pending = [] ∧ fresh.txq = [] ∧
    (scheduled fresh [.sequencer]).pending = .sequencer :: [] ∧ (scheduled fresh [.txPop]).pending = .txPop :: [] := by
  decide
/-- Over although the environment still steps; not over while a word is to come or a reassembly runs. -/
theorem test_witness_QuiescenceEndsARun :
    (scheduled fresh [.rxPush [1], .txPop]).quiescent ∧
    Event.reset ∉ (scheduled fresh [.rxPush [1], .txPop]).pending ∧
    Host.Core.run Sys2Proof.core 1 (scheduled fresh [.rxPush [1], .txPop]) =
      .next (scheduled { fresh with rxq := [1] } [.txPop]) ∧
    (reading fresh 0 []).rxState = .active ∧
    (reading fresh 0 []).rxIter.toNat ≤ (reading fresh 0 []).inst.retryBudget.toNat ∧
    ¬(scheduled fresh [.rxPush [1], .host 0]).quiescent :=
  ⟨by decide, by decide, eq_next (by decide +kernel), by decide, by decide, by decide⟩
/-- Not `ACTIVE` after reset: what the accepted `CRC.INIT`, `CRC.BYTE`, `CRC.READ`, `FRM.OPEN`, `RX.START` and `CFG.WR` need. -/
theorem test_witness_not_active : fresh.rxState ≠ .active ∧ (received fresh 3 response).rxState ≠ .active := by
  decide +kernel
theorem test_witness_CrcRuntxAnswersPrefixChecksum :
    (fresh.rxState ≠ .active ∧ fresh.txState = .empty) ∧
    ((opened fresh).rxState ≠ .active ∧ (opened fresh).txState ≠ .empty ∧ 15 > (opened fresh).txSize.toNat ∧
      14 ≤ (opened fresh).txSize.toNat) := by decide +kernel
theorem test_witness_CrcRunrxAnswersPrefixChecksum : fresh.rxState = .idle ∧
    (received fresh 3 response).rxState = .done ∧ 14 > (received fresh 3 response).rxCount.toNat ∧
    13 ≤ (received fresh 3 response).rxCount.toNat := by decide +kernel
theorem test_witness_ChecksumIsAffine : [1#8, 2].length = [0x10#8, 0x20].length := by decide
theorem test_witness_StreamedChecksumIsChecksum : fresh.rxState ≠ .active ∧
    (scheduled fresh [.host (encode .crcInit), .host (encode (.crcByte 0x31)), .host (encode .crcRead)]).pending =
      .host (encode .crcInit) :: ([0x31].map fun b => Event.host (encode (.crcByte b))) ++ [.host (encode .crcRead)] := by
  decide
theorem test_witness_FrmOpenStartsZeroFilledFrame : fresh.rxState ≠ .active ∧ (5 : Nat) > 4 ∧ (4 : Nat) ≤ 4 := by decide
/-- In a 14-byte frame: offsets 2 and 9 are the ends of what is written, 1 and 10 are refused. -/
theorem test_witness_FrmPut8WritesOneByte : (fresh.rxState ≠ .active ∧ fresh.txState = .empty) ∧
    (opened fresh).rxState ≠ .active ∧ (opened fresh).txState ≠ .empty ∧
    ((1 : Nat) < 2 ∨ 1 + 5 > (opened fresh).txSize.toNat) ∧ ((10 : Nat) < 2 ∨ 10 + 5 > (opened fresh).txSize.toNat) ∧
    2 + 5 ≤ (opened fresh).txSize.toNat ∧ 9 + 5 ≤ (opened fresh).txSize.toNat := by decide +kernel
/-- Two bytes: offsets 2 and 8 are written, 1 and 9 are refused; the same states serve `FRM.PUT16S` with -32768 and 32767. -/
theorem test_witness_FrmPut16WritesTwoBytes : (fresh.rxState ≠ .active ∧ fresh.txState = .empty) ∧
    (opened fresh).rxState ≠ .active ∧ (opened fresh).txState ≠ .empty ∧
    ((1 : Nat) < 2 ∨ 1 + 1 + 5 > (opened fresh).txSize.toNat) ∧
    ((9 : Nat) < 2 ∨ 9 + 1 + 5 > (opened fresh).txSize.toNat) ∧
    2 + 1 + 5 ≤ (opened fresh).txSize.toNat ∧ 8 + 1 + 5 ≤ (opened fresh).txSize.toNat ∧
    (-32768 : Int) ≤ -32768 ∧ (32767 : Int) ≤ 32767 := by decide +kernel
theorem test_witness_FrmSealStampsChecksum : (fresh.rxState ≠ .active ∧ fresh.txState = .empty) ∧
    (opened fresh).rxState ≠ .active ∧ (opened fresh).txState ≠ .empty ∧ 4 ≤ (opened fresh).txSize.toNat := by
  decide +kernel
theorem test_witness_FrmSendAppendsSealedFrame : ((opened fresh).rxState ≠ .active ∧ (opened fresh).txState ≠ .sealed) ∧
    (sealedFrame fresh).rxState ≠ .active ∧ (sealedFrame fresh).txState = .sealed := by decide +kernel
theorem test_witness_FrmGetReadsOneByte : (fresh.rxState ≠ .active ∧ fresh.txState = .empty) ∧
    (opened fresh).rxState ≠ .active ∧ (opened fresh).txState ≠ .empty ∧ 14 ≥ (opened fresh).txSize.toNat ∧
    13 < (opened fresh).txSize.toNat := by decide +kernel
theorem test_witness_FieldWritesLeaveFramingBytes : exec (.frmPut8 9 0xAB) (opened fresh) =
    .next (after (.frmPut8 9 0xAB) (opened fresh)) ∧ (1 : Nat) < 2 ∧ (opened fresh).txSize.toNat - 4 ≤ 10 :=
  ⟨eq_next (by decide +kernel), by decide, by decide +kernel⟩
/-- `FRM.PUT8 2, 1` changes a byte; a new `FRM.OPEN 1, 0` after a 22-byte frame drops offset 21 from the record. -/
theorem test_witness_FrameWritesAreRecorded_exec : (fresh.rxState ≠ .active ∧ (4 : Nat) ≤ 4) ∧
    ((after (.frmOpen 2 4) fresh).rxState ≠ .active ∧ (after (.frmOpen 2 4) fresh).txState ≠ .empty ∧
      17 + 5 ≤ (after (.frmOpen 2 4) fresh).txSize.toNat ∧ 16 + 1 + 5 ≤ (after (.frmOpen 2 4) fresh).txSize.toNat) ∧
    exec (.frmOpen 2 4) fresh = .next (after (.frmOpen 2 4) fresh) ∧
    exec (.frmPut8 17 1) (after (.frmOpen 2 4) fresh) = .next (after (.frmPut8 17 1) (after (.frmOpen 2 4) fresh)) ∧
    exec (.frmPut16u 16 1) (after (.frmOpen 2 4) fresh) =
      .next (after (.frmPut16u 16 1) (after (.frmOpen 2 4) fresh)) ∧
    exec (.frmPut16s 2 (-1)) (after (.frmOpen 2 4) fresh) =
      .next (after (.frmPut16s 2 (-1)) (after (.frmOpen 2 4) fresh)) ∧
    exec .frmSeal (after (.frmOpen 2 4) fresh) = .next (after .frmSeal (after (.frmOpen 2 4) fresh)) :=
  ⟨by decide, by decide +kernel, eq_next (by decide +kernel), eq_next (by decide +kernel), eq_next (by decide +kernel),
    eq_next (by decide +kernel), eq_next (by decide +kernel)⟩
theorem test_witness_FrameWritesAreRecorded_step :
    step (scheduled (after (.frmOpen 2 4) fresh) [.host 0x1102000100000000]) =
      .next (after (.frmPut8 2 1) (after (.frmOpen 2 4) fresh)) ∧
    (after (.frmPut8 2 1) (after (.frmOpen 2 4) fresh)).txbuf.read 2 ≠ (after (.frmOpen 2 4) fresh).txbuf.read 2 ∧
    step (scheduled (after (.frmOpen 2 4) fresh) [.host 0x1001000000000000]) =
      .next (after (.frmOpen 1 0) (after (.frmOpen 2 4) fresh)) ∧
    (after (.frmOpen 1 0) (after (.frmOpen 2 4) fresh)).txWritten ≠ (after (.frmOpen 2 4) fresh).txWritten :=
  ⟨eq_next (by decide +kernel), by decide +kernel, eq_next (by decide +kernel), by decide +kernel⟩
/-- A sealed frame, checksum and all. -/
theorem test_witness_SealedTrailerIsRecomputed : (sealedFrame fresh).Inv ∧ (sealedFrame fresh).rxState ≠ .active ∧
    (sealedFrame fresh).txState = .sealed := by
  refine ⟨?_, by decide +kernel, by decide +kernel⟩
  constructor <;> decide +kernel
theorem test_witness_RxGetReadsPayload : fresh.rxState = .idle ∧ (received fresh 3 response).rxState = .done ∧
    3 ≥ (received fresh 3 response).rxPlen.toNat ∧ 2 < (received fresh 3 response).rxPlen.toNat := by decide +kernel
theorem test_witness_RxRawReadsGatheredByte : fresh.rxState = .idle ∧ (received fresh 3 response).rxState = .done ∧
    13 ≥ (received fresh 3 response).rxCount.toNat ∧ 12 < (received fresh 3 response).rxCount.toNat := by decide +kernel
theorem test_witness_PollGathersWhatIsThere :
    (scheduled (reading fresh 3 response) [.sequencer]).pending = .sequencer :: [] ∧
    (reading fresh 3 response).rxState = .active ∧
    (reading fresh 3 response).rxCount.toNat < (reading fresh 3 response).rxExpect.toNat + 8 ∧
    (reading fresh 3 response).rxIter.toNat < (reading fresh 3 response).inst.retryBudget.toNat ∧
    fresh.rxState ≠ .active ∧ (poll (reading fresh 5 response)).rxExpect.toNat + 8 =
      (poll (reading fresh 5 response)).rxCount.toNat := by decide +kernel
/-- A reassembly about to complete: the buffers of V34, V35, V36 and of P7 (whose budget ran out), a wrong marker. -/
def gathered (s : State) (bs : List Byte) : State := poll (reading s 3 bs)
theorem test_witness_CompleteGivesTheResult_gathered :
    (gathered fresh response).rxState = .active ∧
    (gathered fresh response).rxExpect.toNat + 8 ≤ (gathered fresh response).rxCount.toNat ∧
    8 ≤ (gathered fresh response).rxCount.toNat ∧ (gathered fresh response).rxbuf.read 0 = example8.rspStartMark ∧
    (gathered fresh response).ctrl = 0 := by decide +kernel
theorem test_witness_CompleteGivesTheResult_budget :
    { gathered fresh [0xFA] with rxIter := 3 }.rxIter = { gathered fresh [0xFA] with rxIter := 3 }.inst.retryBudget ∧
    (gathered fresh [0xFA]).rxCount.toNat < 8 ∧
    (gathered fresh [0xF5, 0, 0, 0, 0, 0, 0, 0]).rxbuf.read 0 ≠ example8.rspStartMark := by decide +kernel
theorem test_witness_CompleteGivesTheResult_verified :
    (gathered verifying checkedResponse).ctrl = 1 ∧ 3 + 8 ≤ (gathered verifying checkedResponse).rxCount.toNat ∧
    ∀ j, j < 4 → (gathered verifying checkedResponse).rxbuf.read (4 + 3 + j) =
      (0xF59E4375#32 ^^^ (gathered verifying checkedResponse).crcXorout).extractLsb' (8 * j) 8 := by decide +kernel
theorem test_witness_CompleteGivesTheResult_not_verified :
    (∃ j, j < 4 ∧ (gathered verifying response).rxbuf.read (4 + 3 + j) ≠
      (0xF59E4375#32 ^^^ (gathered verifying response).crcXorout).extractLsb' (8 * j) 8) ∧
    (gathered verifying (checkedResponse.take 10)).rxCount.toNat < 3 + 8 := by
  refine ⟨⟨0, by decide +kernel⟩, by decide +kernel⟩
/-- The broken response of V35 with its completion scheduled. -/
def brokenCompletes : State := scheduled (gathered verifying brokenResponse) [.sequencer]
theorem test_witness_RxcrcRaisedOnlyByVerification :
    step brokenCompletes = .next (received verifying 3 brokenResponse) ∧
    brokenCompletes.err &&& 16 = 0 ∧ (received verifying 3 brokenResponse).err &&& 16 ≠ 0 ∧
    brokenCompletes.pending.head? = some .sequencer ∧ brokenCompletes.rxState = .active ∧
    brokenCompletes.rxExpect.toNat + 8 ≤ brokenCompletes.rxCount.toNat ∧ brokenCompletes.ctrl = 1 ∧
    brokenCompletes.responseValid = true ∧ brokenCompletes.trailerMatches = false :=
  ⟨eq_next (by decide +kernel), by decide +kernel, by decide +kernel, by decide +kernel, by decide +kernel,
    by decide +kernel, by decide +kernel, by decide +kernel, by decide +kernel⟩
theorem test_witness_EveryReassemblyPollsOnce : fresh.inst.legal = true ∧ fresh.rxState ≠ .active ∧
    exec (.rxStart (3#16).toNat) fresh = .next (after (.rxStart 3) fresh) :=
  ⟨by decide, by decide, eq_next (by decide +kernel)⟩
/-- Three polls and the completion, with a push between; and with nothing scheduled. -/
theorem test_witness_EveryReassemblyEnds :
    (scheduled (reading fresh 0 []) [.sequencer, .rxPush [1], .sequencer, .sequencer, .sequencer]).rxState = .active ∧
    Event.reset ∉
      (scheduled (reading fresh 0 []) [.sequencer, .rxPush [1], .sequencer, .sequencer, .sequencer]).pending ∧
    (reading fresh 0 []).inst.retryBudget.toNat - (reading fresh 0 []).rxIter.toNat <
      (scheduled (reading fresh 0 [])
        [.sequencer, .rxPush [1], .sequencer, .sequencer, .sequencer]).pending.count .sequencer ∧
    (reading fresh 0 []).rxState = .active ∧ (reading fresh 0 []).pending = [] := by decide
/-- The response of V30 h waits, `RX.START 3`, a poll and the completion are scheduled. -/
def responseWaits : State :=
  scheduled { fresh with rxq := response } [.host (encode (.rxStart 3)), .sequencer, .sequencer]
theorem test_witness_WholeResponseIsDelivered : responseWaits.inst.legal = true ∧ responseWaits.ctrl = 0 ∧
    responseWaits.rxState ≠ .active ∧ [0xAA#8, 0xBB, 0xCC].length = (3#8).toNat + 256 * (0#8).toNat ∧
    [1#8, 2, 3, 4].length = 4 ∧
    responseWaits.rxq =
      [responseWaits.inst.rspStartMark, 3, 3, 0] ++ [0xAA, 0xBB, 0xCC] ++ [1, 2, 3, 4] ++ [0x99, 0x98] ∧
    responseWaits.pending =
      [.host (encode (.rxStart [0xAA#8, 0xBB, 0xCC].length)), .sequencer, .sequencer] := by decide
theorem test_witness_CfgRdReadsEveryRegister : (0x10 : Nat) > 0x0F ∧ (0x0F : Nat) ≤ 0x0F ∧ (0 : Nat) ≤ 0x0F := by decide
theorem test_witness_CfgWrWritesOnlyWritable : fresh.rxState ≠ .active ∧ (1#32).toNat < 2 ∧ 2 ≤ (2#32).toNat ∧
    (31#32).toNat < 32 ∧ 32 ≤ (32#32).toNat ∧ 3 ∉ [0x00, 0x01, 0x02, 0x04, 0x06] := by decide
theorem test_witness_QueuesMoveOnlyAsStated : (scheduled fresh [.rxPush [1]]).pending = .rxPush [1] :: [] ∧
    (after .frmSend (sealedFrame fresh)).txq = 0xF5 :: (frame (sealedFrame fresh)).tail ∧
    (scheduled fresh [.txPop]).pending = .txPop :: [] := by decide +kernel

end Sys2Proof.Tests
end

section
/-! PROOFS. 10_state.md: the reset event (R36, R180), and which step moves which queue (R24). What an operation can do is
said once (`exec_refused_or_accepted`), and so is what a step can be (`step_cases`). -/

namespace Sys2Proof.Machine

/-! ## What an operation can do -/

/-- What a `CFG.WR` that is not refused leaves in the registers (R151). -/
def State.writeReg (s : State) (r : Nat) (v : Word) : State :=
  match r with
  | 0x00 => { s.dropSeal with crcPoly := v }
  | 0x01 => { s.dropSeal with crcInit := v }
  | 0x02 => { s.dropSeal with crcXorout := v }
  | 0x04 => { s with ctrl := v.extractLsb' 0 1 }
  | 0x06 => s.clearErr (v.extractLsb' 0 5)
  | _ => s

@[simp] theorem writeReg_txq (s : State) (r : Nat) (v : Word) : (s.writeReg r v).txq = s.txq := by
  unfold State.writeReg; split <;> rfl

@[simp] theorem writeReg_rxq (s : State) (r : Nat) (v : Word) : (s.writeReg r v).rxq = s.rxq := by
  unfold State.writeReg; split <;> rfl

/-- The state after an operation that no check refuses, its answer given; `exec_refused_or_accepted` ties it to `exec`. -/
def State.accepted (s : State) : Instr → State
  | .crcInit => { s with crcAcc := s.crcInit }.reply 0
  | .crcByte b => { s with crcAcc := foldByte s.inst.crcFold s.crcPoly s.crcAcc b }.reply 0
  | .crcRead => s.reply (s.crcAcc ^^^ s.crcXorout)
  | .crcRuntx n => (s.runChecksum (s.txbuf.readBytes 0 n)).reply (s.checksum (s.txbuf.readBytes 0 n))
  | .crcRunrx n => (s.runChecksum (s.rxbuf.readBytes 0 n)).reply (s.checksum (s.rxbuf.readBytes 0 n))
  | .frmOpen opc k => (s.openFrame opc k).reply 0
  | .frmPut8 off v => (s.putPayload off 1 v.toNat).reply 0
  | .frmPut16u off v => (s.putPayload off 2 v.toNat).reply 0
  | .frmPut16s off v => (s.putPayload off 2 (BitVec.ofInt 16 v).toNat).reply 0
  | .frmSeal => s.sealFrame.reply (s.checksum s.coveredBytes)
  | .frmSend => { s with txq := s.txq ++ s.txbuf.readBytes 0 s.txSize.toNat }.reply 0
  | .frmGet off => s.reply ((s.txbuf.read off).zeroExtend 32)
  | .rxStart e =>
    { s.noResult with rxExpect := BitVec.ofNat 16 e, rxCount := 0, rxIter := 0, rxState := .active }.reply 0
  | .rxGet idx => s.reply ((s.rxbuf.read (Config.rspHdrLen + idx)).zeroExtend 32)
  | .rxRaw idx => s.reply ((s.rxbuf.read idx).zeroExtend 32)
  | .cfgRd r => s.reply ((s.readReg r).getD 0)
  | .cfgWr r v => (s.writeReg r v).reply 0

/-- The outcome is a refusal of `s` (R161) or the next state `u`. -/
def RefusedOr (s u : State) (o : Host.Outcome State Fault Refusal) : Prop :=
  (∃ f, o = .next (s.refuse f)) ∨ o = .next u

theorem RefusedOr.refuseIf {c : Prop} [Decidable c] {f : ErrFlag} {s u : State}
    {go : Host.Outcome State Fault Refusal} (h : RefusedOr s u go) : RefusedOr s u (refuseIf c f s go) := by
  by_cases hc : c
  · exact .inl ⟨f, refuseIf_pos hc f s go⟩
  · rwa [refuseIf_neg hc]

theorem RefusedOr.unlessBusy {s u : State} {go : Host.Outcome State Fault Refusal} (h : RefusedOr s u go) :
    RefusedOr s u (unlessBusy s go) := h.refuseIf

theorem execCfgRd_refusedOr (r : Nat) (s : State) : RefusedOr s (s.accepted (.cfgRd r)) (execCfgRd r s) := by
  unfold execCfgRd
  cases hr : s.readReg r with
  | some v => exact .inr (by simp [State.accepted, answerWith, hr])
  | none => exact .inl ⟨.range, rfl⟩

theorem execCfgWr_refusedOr (r : Nat) (v : Word) (s : State) :
    RefusedOr s (s.accepted (.cfgWr r v)) (execCfgWr r v s) := by
  refine RefusedOr.unlessBusy ?_
  split
  · exact .inr rfl
  · exact .inr rfl
  · exact .inr rfl
  · exact .refuseIf (.inr rfl)
  · exact .refuseIf (.inr rfl)
  · exact .inl ⟨.range, rfl⟩

/-- Everything an operation can do: it is refused, or it takes the effect its rule gives it. -/
theorem exec_refused_or_accepted (i : Instr) (s : State) : RefusedOr s (s.accepted i) (exec i s) :=
  match i with
  | .crcInit | .crcByte _ | .crcRead | .rxStart _ => .unlessBusy (.inr rfl)
  | .frmOpen _ _ | .frmSeal | .frmSend => .unlessBusy (.refuseIf (.inr rfl))
  | .crcRuntx _ | .crcRunrx _ | .frmPut8 _ _ | .frmPut16u _ _ | .frmPut16s _ _ | .frmGet _ | .rxGet _ | .rxRaw _ =>
    .unlessBusy (.refuseIf (.refuseIf (.inr rfl)))
  | .cfgRd r => execCfgRd_refusedOr r s
  | .cfgWr r v => execCfgWr_refusedOr r v s

/-- The same of the next state an operation gives. -/
theorem exec_cases {i : Instr} {s t : State} (h : exec i s = .next t) :
    (∃ f, t = s.refuse f) ∨ t = s.accepted i := by
  obtain ⟨f, hf⟩ | ha := exec_refused_or_accepted i s
  · rw [h] at hf; cases hf; exact .inl ⟨f, rfl⟩
  · rw [h] at ha; cases ha; exact .inr rfl

/-! ## What a step can be -/

/-- Everything a step can be: the sequencer's with nothing scheduled, or the event next in the schedule. -/
theorem step_cases {s t : State} (h : step s = .next t) :
    (s.pending = [] ∧ t = sequencerStep s) ∨
    ∃ e rest, s.pending = e :: rest ∧ takeEvent e { s with pending := rest } = .next t := by
  cases hp : s.pending with
  | nil => rw [step_unscheduled hp] at h; cases h; exact .inl ⟨rfl, rfl⟩
  | cons e rest => exact .inr ⟨e, rest, rfl, step_scheduled hp ▸ h⟩

/-! ## The reset event -/

section
variable (s : State)

@[simp] theorem resetEvent_inst : (resetEvent s).inst = s.inst := rfl
@[simp] theorem resetEvent_txq : (resetEvent s).txq = s.txq := rfl
@[simp] theorem resetEvent_rxq : (resetEvent s).rxq = s.rxq := rfl
@[simp] theorem resetEvent_answer : (resetEvent s).answer = s.answer := rfl
@[simp] theorem resetEvent_pending : (resetEvent s).pending = s.pending := rfl

end

/-- A scheduled reset is taken in every state. -/
theorem step_reset {s : State} {rest : List Event} (h : s.pending = .reset :: rest) :
    step s = .next (resetEvent { s with pending := rest }) := step_scheduled h

/-! ## Which step moves which queue -/

/-- No operation but `FRM.SEND` moves `TXQ`. -/
theorem accepted_txq {i : Instr} (hi : i ≠ .frmSend) (s : State) : (s.accepted i).txq = s.txq := by
  cases i with
  | frmSend => exact absurd rfl hi
  | cfgWr r v => exact writeReg_txq s r v
  | _ => rfl

/-- No operation moves `RXQ`. -/
theorem accepted_rxq (i : Instr) (s : State) : (s.accepted i).rxq = s.rxq := by
  cases i with
  | cfgWr r v => exact writeReg_rxq s r v
  | _ => rfl

theorem exec_txq {i : Instr} {s t : State} (h : exec i s = .next t) :
    t.txq = s.txq ∨ i = .frmSend ∧ ∃ frame, t.txq = s.txq ++ frame := by
  obtain ⟨f, rfl⟩ | rfl := exec_cases h
  · exact .inl (refuse_txq s f)
  · by_cases hi : i = .frmSend
    · subst hi; exact .inr ⟨rfl, _, rfl⟩
    · exact .inl (accepted_txq hi s)

theorem exec_rxq {i : Instr} {s t : State} (h : exec i s = .next t) : t.rxq = s.rxq := by
  obtain ⟨f, rfl⟩ | rfl := exec_cases h
  · exact refuse_rxq s f
  · exact accepted_rxq i s

/-- Everything the host's step can be: an illegal word refused, or the decoded operation. -/
theorem hostWord_cases {w : OpWord} {s t : State} (h : hostWord w s = .next t) :
    t = s.refuse .illegal ∨ ∃ i, decode w = .ok i ∧ exec i s = .next t := by
  unfold hostWord at h
  split at h
  · rename_i i hi; exact .inr ⟨i, hi, h⟩
  · cases h; exact .inl rfl

theorem hostWord_txq {w : OpWord} {s t : State} (h : hostWord w s = .next t) :
    t.txq = s.txq ∨ decode w = .ok .frmSend ∧ ∃ frame, t.txq = s.txq ++ frame := by
  obtain rfl | ⟨i, hi, hx⟩ := hostWord_cases h
  · exact .inl (refuse_txq s _)
  · obtain hq | ⟨rfl, hq⟩ := exec_txq hx
    · exact .inl hq
    · exact .inr ⟨hi, hq⟩

theorem hostWord_rxq {w : OpWord} {s t : State} (h : hostWord w s = .next t) : t.rxq = s.rxq := by
  obtain rfl | ⟨i, -, hx⟩ := hostWord_cases h
  · exact refuse_rxq s _
  · exact exec_rxq hx

@[simp] theorem finish_txq (s : State) : (finish s).txq = s.txq := by
  obtain ⟨-, h⟩ | ⟨-, -, h⟩ | ⟨-, -, -, -, h⟩ | ⟨-, -, -, -, h⟩ | ⟨-, -, -, h⟩ := finish_cases s <;> simp [h]

@[simp] theorem finish_rxq (s : State) : (finish s).rxq = s.rxq := by
  obtain ⟨-, h⟩ | ⟨-, -, h⟩ | ⟨-, -, -, -, h⟩ | ⟨-, -, -, -, h⟩ | ⟨-, -, -, h⟩ := finish_cases s <;> simp [h]

@[simp] theorem sequencerStep_txq (s : State) : (sequencerStep s).txq = s.txq := by
  obtain ⟨-, h⟩ | ⟨-, h⟩ | ⟨-, -, h⟩ := sequencerStep_cases s <;> simp [h]

/-- The sequencer takes bytes at the head of `RXQ`, and only by an enabled poll. -/
theorem sequencerStep_rxq (s : State) : (sequencerStep s).rxq = s.rxq ∨
    ∃ taken, s.pollEnabled = true ∧ s.rxq = taken ++ (sequencerStep s).rxq := by
  obtain ⟨-, h⟩ | ⟨hp, h⟩ | ⟨-, -, h⟩ := sequencerStep_cases s
  · exact .inl (by rw [h])
  · exact .inr ⟨s.rxq.take s.pollTake, hp, by rw [h, poll_rxq, List.take_append_drop]⟩
  · exact .inl (by rw [h, finish_rxq])

/-- What each event does to `TXQ`. -/
theorem takeEvent_txq {e : Event} {s t : State} (h : takeEvent e s = .next t) :
    t.txq = s.txq ∨ (e = .txPop ∧ t.txq = s.txq.tail) ∨
    ∃ w frame, e = .host w ∧ decode w = .ok .frmSend ∧ t.txq = s.txq ++ frame := by
  cases e with
  | host w =>
    obtain hq | ⟨hw, frame, hq⟩ := hostWord_txq h
    · exact .inl hq
    · exact .inr (.inr ⟨w, frame, rfl, hw, hq⟩)
  | sequencer => cases h; exact .inl (sequencerStep_txq s)
  | rxPush bs => cases h; exact .inl (rxPush_txq s bs)
  | txPop => cases h; exact .inr (.inl ⟨rfl, txPop_txq s⟩)
  | reset => cases h; exact .inl (resetEvent_txq s)

/-- What each event does to `RXQ`. -/
theorem takeEvent_rxq {e : Event} {s t : State} (h : takeEvent e s = .next t) :
    t.rxq = s.rxq ∨ (∃ bs, e = .rxPush bs ∧ t.rxq = s.rxq ++ bs) ∨
    ∃ taken, s.pollEnabled = true ∧ e = .sequencer ∧ s.rxq = taken ++ t.rxq := by
  cases e with
  | host w => exact .inl (hostWord_rxq h)
  | sequencer =>
    cases h
    obtain hq | ⟨taken, hp, hq⟩ := sequencerStep_rxq s
    · exact .inl hq
    · exact .inr (.inr ⟨taken, hp, rfl, hq⟩)
  | rxPush bs => cases h; exact .inr (.inl ⟨bs, rfl, rxPush_rxq s bs⟩)
  | txPop => cases h; exact .inl (txPop_rxq s)
  | reset => cases h; exact .inl (resetEvent_rxq s)

/-- In every step `TXQ` stays, loses its head by `ENV.TXPOP`, or gains a tail by `FRM.SEND`. -/
theorem step_txq {s t : State} (h : step s = .next t) :
    t.txq = s.txq ∨ (s.pending.head? = some .txPop ∧ t.txq = s.txq.tail) ∨
    ∃ w frame, s.pending.head? = some (.host w) ∧ decode w = .ok .frmSend ∧ t.txq = s.txq ++ frame := by
  obtain ⟨-, rfl⟩ | ⟨e, rest, hp, he⟩ := step_cases h
  · exact .inl (sequencerStep_txq s)
  · simpa [hp] using takeEvent_txq he

/-- In every step `RXQ` stays, gains a tail by `ENV.RXPUSH`, or loses bytes at its head by an enabled poll. -/
theorem step_rxq {s t : State} (h : step s = .next t) :
    t.rxq = s.rxq ∨ (∃ bs, s.pending.head? = some (.rxPush bs) ∧ t.rxq = s.rxq ++ bs) ∨
    ∃ taken, s.pollEnabled = true ∧ (s.pending = [] ∨ s.pending.head? = some .sequencer) ∧
      s.rxq = taken ++ t.rxq := by
  obtain ⟨hp, rfl⟩ | ⟨e, rest, hp, he⟩ := step_cases h
  · obtain hq | ⟨taken, hpoll, hq⟩ := sequencerStep_rxq s
    · exact .inl hq
    · exact .inr (.inr ⟨taken, hpoll, .inl hp, hq⟩)
  · obtain hq | ⟨bs, rfl, hq⟩ | ⟨taken, hpoll, rfl, hq⟩ := takeEvent_rxq he
    · exact .inl hq
    · exact .inr (.inl ⟨bs, by simp [hp], hq⟩)
    · exact .inr (.inr ⟨taken, hpoll, .inr (by simp [hp]), hq⟩)

/-! ## The obligations of 10_state.md -/

/-- Settles O58: the environment's steps are the scheduled events themselves; `step_txq` and `step_rxq` say the rest. -/
theorem queuesMoveOnlyAsStated : Obligations.QueuesMoveOnlyAsStated := by
  refine ⟨fun s bs rest hp => step_scheduled hp, fun s b bs rest hq hp => ?_, fun s t h => ⟨step_txq h, step_rxq h⟩⟩
  have hpop : step s = .next (txPop { s with pending := rest }) := step_scheduled hp
  rw [hpop, txPop, hq, List.tail_cons]

/-- Settles O16: the block's registers come from `State.resetFor`, all else from the state before. -/
theorem resetEventLoadsResetValues : Obligations.ResetEventLoadsResetValues := by
  intro s rest hp
  refine ⟨_, step_reset hp, ?_⟩
  simp [resetEvent, State.resetFor, Config.crcPolyReset, Config.crcInitReset, Config.crcXoroutReset]

end Sys2Proof.Machine
end

section
/-! PROOFS. 40_crc.md: the checksum functions bit step by bit step (R80 to R84), and the five operations of the CRC unit
(R85 to R89). How the checks of R65 in front of an operation end is said once, for all the operations that make them. -/

namespace Sys2Proof

/-! ## Operation words -/

/-- Decoding a word put together from fields decodes those fields. -/
theorem decode_word (f : Fields) : decode f.word = f.decode := by rw [decode, Fields.fields_word]

/-- A word with the byte `b` in `h[7:0]` and zeros in `h[15:8]`. -/
theorem word_lowHalf (op a b : Byte) (d : Word) :
    op ++ a ++ 0#8 ++ b ++ d = Fields.word ⟨op, a, 0#8 ++ b, d⟩ := by
  simp only [Fields.word, BitVec.append_assoc, BitVec.cast_eq]

theorem decode_crcByte (b : Byte) : decode (0x02#8 ++ 0#8 ++ 0#8 ++ b ++ 0#32) = .ok (.crcByte b) := by
  have high : (0#8 ++ b).extractLsb' 8 8 = 0#8 := BitVec.extractLsb'_append_eq_left
  have low : (0#8 ++ b).extractLsb' 0 8 = b := BitVec.extractLsb'_append_eq_right
  rw [word_lowHalf, decode_word]
  simp [Fields.decode, Fields.legalIf, Fields.hHigh, Fields.hLow, high, low]

theorem decode_crcRuntx (n : BitVec 16) : decode (0x04#8 ++ 0#8 ++ n ++ 0#32) = .ok (.crcRuntx n.toNat) :=
  decode_word ⟨0x04, 0, n, 0⟩

theorem decode_crcRunrx (n : BitVec 32) : decode (0x05#8 ++ 0#8 ++ 0#16 ++ n) = .ok (.crcRunrx n.toNat) :=
  decode_word ⟨0x05, 0, 0, n⟩

end Sys2Proof

namespace Sys2Proof.Machine

/-! ## How the checks of an operation end (R65) -/

theorem refuse_seq (s : State) :
    s.refuse .seq = { s with err := s.err ||| 4, answer := some ⟨0, true⟩ } := rfl

theorem refuse_range (s : State) :
    s.refuse .range = { s with err := s.err ||| 8, answer := some ⟨0, true⟩ } := rfl

section
variable {s : State} {c d : Prop} [Decidable c] [Decidable d] {go : Host.Outcome State Fault Refusal}

/-- Outside `ACTIVE` the `SEQ` check comes first. -/
theorem checks_seq (hb : s.rxState ≠ .active) (hc : c) :
    unlessBusy s (refuseIf c .seq s go) = .next { s with err := s.err ||| 4, answer := some ⟨0, true⟩ } := by
  rw [unlessBusy_free hb, refuseIf_pos hc, refuse_seq]

/-- The `RANGE` check comes after it. -/
theorem checks_range (hb : s.rxState ≠ .active) (hc : ¬c) (hd : d) :
    unlessBusy s (refuseIf c .seq s (refuseIf d .range s go)) =
      .next { s with err := s.err ||| 8, answer := some ⟨0, true⟩ } := by
  rw [unlessBusy_free hb, refuseIf_neg hc, refuseIf_pos hd, refuse_range]

theorem checks_passed (hb : s.rxState ≠ .active) (hc : ¬c) (hd : ¬d) :
    unlessBusy s (refuseIf c .seq s (refuseIf d .range s go)) = go := by
  rw [unlessBusy_free hb, refuseIf_neg hc, refuseIf_neg hd]

end

/-! ## The checksum functions (R80 to R84) -/

/-- The bit step by the bit that R80 names. -/
theorem crcStep_eq (poly acc : Word) :
    crcStep poly acc = if acc.getLsbD 31 = true then (acc <<< 1) ^^^ poly else acc <<< 1 := by
  rw [crcStep, BitVec.msb_eq_getLsbD_last]

theorem crcSteps_zero (poly acc : Word) : crcSteps poly 0 acc = acc := rfl

theorem crcSteps_succ (poly acc : Word) (n : Nat) :
    crcSteps poly (n + 1) acc =
      crcSteps poly n (if acc.getLsbD 31 = true then (acc <<< 1) ^^^ poly else acc <<< 1) := by
  rw [crcSteps, crcStep_eq]

theorem foldBytes_nil (f : Config.Fold) (poly acc : Word) : foldBytes f poly acc [] = acc := rfl

theorem foldBytes_cons (f : Config.Fold) (poly acc : Word) (b : Byte) (bs : List Byte) :
    foldBytes f poly acc (b :: bs) = foldBytes f poly (foldByte f poly acc b) bs := rfl

theorem checksum_eq (s : State) (bs : List Byte) :
    s.checksum bs = foldBytes s.inst.crcFold s.crcPoly s.crcInit bs ^^^ s.crcXorout := rfl

theorem runChecksum_eq (s : State) (bs : List Byte) :
    s.runChecksum bs = { s with crcAcc := foldBytes s.inst.crcFold s.crcPoly s.crcInit bs } := rfl

/-- How an operation that runs a checksum and answers it ends. -/
theorem answerWith_checksum (s : State) (bs : List Byte) :
    answerWith (s.checksum bs) (s.runChecksum bs) = .next { s with
      crcAcc := foldBytes s.inst.crcFold s.crcPoly s.crcInit bs
      answer := some ⟨foldBytes s.inst.crcFold s.crcPoly s.crcInit bs ^^^ s.crcXorout, false⟩ } := rfl

/-! ## The operations of the CRC unit, accepted (R85 to R89) -/

section
variable {s : State}

theorem exec_crcInit (hb : s.rxState ≠ .active) :
    exec .crcInit s = .next { s with crcAcc := s.crcInit, answer := some ⟨0, false⟩ } := unlessBusy_free hb _

theorem exec_crcByte (hb : s.rxState ≠ .active) (b : Byte) :
    exec (.crcByte b) s = .next { s with
      crcAcc := foldByte s.inst.crcFold s.crcPoly s.crcAcc b, answer := some ⟨0, false⟩ } := unlessBusy_free hb _

theorem exec_crcRead (hb : s.rxState ≠ .active) :
    exec .crcRead s = .next { s with answer := some ⟨s.crcAcc ^^^ s.crcXorout, false⟩ } := unlessBusy_free hb _

theorem exec_crcRuntx {n : Nat} (hb : s.rxState ≠ .active) (ht : s.txState ≠ .empty) (hn : n ≤ s.txSize.toNat) :
    exec (.crcRuntx n) s =
      answerWith (s.checksum (s.txbuf.readBytes 0 n)) (s.runChecksum (s.txbuf.readBytes 0 n)) :=
  checks_passed hb ht hn.not_gt

theorem exec_crcRunrx {n : Nat} (hd : s.rxState = .done) (hn : n ≤ s.rxCount.toNat) :
    exec (.crcRunrx n) s =
      answerWith (s.checksum (s.rxbuf.readBytes 0 n)) (s.runChecksum (s.rxbuf.readBytes 0 n)) :=
  checks_passed (by simp [hd]) (not_not_intro hd) hn.not_gt

end

/-! ## The obligations of 40_crc.md -/

/-- Settles O26: the functions by their equations, the values of R82 and R83 by evaluation. -/
theorem checksumFunctionsFollowTheirRules : Obligations.ChecksumFunctionsFollowTheirRules :=
  ⟨crcStep_eq,
    fun poly acc n => ⟨crcSteps_zero poly acc, crcSteps_succ poly acc n⟩,
    fun poly acc b => ⟨foldByte_msb8 poly acc b, foldByte_word32 poly acc b⟩,
    fun f poly acc b bs => ⟨foldBytes_nil f poly acc, foldBytes_cons f poly acc b bs⟩,
    fun s bs => ⟨checksum_eq s bs, runChecksum_eq s bs⟩,
    by decide +kernel, by decide +kernel, by decide +kernel⟩

/-- Settles O27. -/
theorem crcInitLoadsSeed : Obligations.CrcInitLoadsSeed := ⟨by decide, fun _ hb => exec_crcInit hb⟩

/-- Settles O28: `exec_crcByte`, the fold written out for each value of `CRC_FOLD`. -/
theorem crcByteFoldsOneByte : Obligations.CrcByteFoldsOneByte := by
  refine ⟨fun poly acc n => ⟨crcSteps_zero poly acc, crcSteps_succ poly acc n⟩, decode_crcByte, fun b s hb => ?_⟩
  rw [exec_crcByte hb]
  cases s.inst.crcFold with
  | msb8 => rw [foldByte_msb8, foldMsb8]
  | word32 => rw [foldByte_word32, foldWord32]

/-- Settles O29. -/
theorem crcReadAnswersChecksum : Obligations.CrcReadAnswersChecksum := ⟨by decide, fun _ hb => exec_crcRead hb⟩

/-- Settles O30: the two checks in their order, then the checksum run over the bytes read. -/
theorem crcRuntxAnswersPrefixChecksum : Obligations.CrcRuntxAnswersPrefixChecksum := by
  refine ⟨decode_crcRuntx, fun n s hb => ⟨checks_seq hb, checks_range hb, fun ht hn => ?_⟩⟩
  rw [exec_crcRuntx hb ht hn, answerWith_checksum, readBytes_eq_map]

/-- Settles O31: as O30, `IDLE` and `DONE` being the two ways not to be `ACTIVE`. -/
theorem crcRunrxAnswersPrefixChecksum : Obligations.CrcRunrxAnswersPrefixChecksum := by
  refine ⟨decode_crcRunrx, fun n s => ⟨fun hi => ?_, fun hd => ?_, fun hd hn => ?_⟩⟩
  · exact checks_seq (by simp [hi]) (by simp [hi])
  · exact checks_range (by simp [hd]) (not_not_intro hd)
  · rw [exec_crcRunrx hd hn, answerWith_checksum, readBytes_eq_map]

end Sys2Proof.Machine
end

section
/-! PROOFS. 41_framer.md: the seven operations of the command framer (R101 to R107). What `MemWrite` stores is said byte by
byte once (`read_memWrite_inside`), for the field writes and for the trailer. -/

namespace Sys2Proof

/-! ## Operation words -/

/-- The byte put into `h[7:0]` is the "low 8" operand. -/
@[simp] theorem Fields.hLow_lowByte (op a b : Byte) (d : Word) : (⟨op, a, 0#8 ++ b, d⟩ : Fields).hLow = b :=
  BitVec.extractLsb'_append_eq_right

/-- And `h[15:8]` is then zero, as R61 asks. -/
@[simp] theorem Fields.hHigh_lowByte (op a b : Byte) (d : Word) : (⟨op, a, 0#8 ++ b, d⟩ : Fields).hHigh = 0#8 :=
  BitVec.extractLsb'_append_eq_left

theorem decode_frmOpen (opc k : Byte) :
    decode (0x10#8 ++ opc ++ 0#8 ++ k ++ 0#32) = .ok (.frmOpen opc k.toNat) := by
  rw [word_lowHalf, decode_word]
  simp [Fields.decode, Fields.legalIf]

theorem decode_frmPut8 (off v : Byte) :
    decode (0x11#8 ++ off ++ 0#8 ++ v ++ 0#32) = .ok (.frmPut8 off.toNat v) := by
  rw [word_lowHalf, decode_word]
  simp [Fields.decode, Fields.legalIf]

theorem decode_frmPut16u (off : Byte) (v : BitVec 16) :
    decode (0x12#8 ++ off ++ v ++ 0#32) = .ok (.frmPut16u off.toNat v) := decode_word ⟨0x12, off, v, 0⟩

theorem decode_frmPut16s (off : Byte) (h : BitVec 16) :
    decode (0x13#8 ++ off ++ h ++ 0#32) = .ok (.frmPut16s off.toNat h.toInt) := decode_word ⟨0x13, off, h, 0⟩

theorem decode_frmGet (off : Byte) : decode (0x16#8 ++ off ++ 0#16 ++ 0#32) = .ok (.frmGet off.toNat) :=
  decode_word ⟨0x16, off, 0, 0⟩

end Sys2Proof

namespace Sys2Proof.Machine

/-! ## The bytes of a value (R41) -/

theorem littleEndian_getD {n j : Nat} (h : j < n) (v : Nat) :
    (littleEndian n v).getD j 0 = BitVec.ofNat 8 (v / 256 ^ j) := by
  induction n generalizing j v with
  | zero => omega
  | succ n ih =>
    cases j with
    | zero => simp [littleEndian]
    | succ j =>
      rw [littleEndian, List.getD_cons_succ, ih (by omega), Nat.div_div_eq_div_mul, Nat.pow_succ']

/-- Byte `j` of a word, as bits: `v[8j+7 : 8j]`. -/
theorem extractLsb'_byte {w : Nat} (v : BitVec w) (j : Nat) :
    v.extractLsb' (8 * j) 8 = BitVec.ofNat 8 (v.toNat / 256 ^ j) := by
  rw [BitVec.extractLsb', Nat.shiftRight_eq_div_pow, Nat.pow_mul]

/-- A write of a word, read back byte by byte. -/
theorem read_memWrite_inside {w n j : Nat} (h : j < n) (m : Memory) (a : Nat) (v : BitVec w) :
    (m.memWrite a n v.toNat).read (a + j) = v.extractLsb' (8 * j) 8 := by
  rw [Memory.memWrite, read_writeBytes_inside (by rwa [littleEndian_length]), littleEndian_getD h, extractLsb'_byte]

/-- A halfword is its two bytes. -/
theorem toNat_bytes (v : BitVec 16) :
    v.toNat = (v.extractLsb' 0 8).toNat + 256 * (v.extractLsb' 8 8).toNat := by
  have := v.isLt
  simp only [BitVec.extractLsb'_toNat, Nat.shiftRight_eq_div_pow]
  omega

/-! ## The frame that `FRM.OPEN` leaves (R101) -/

@[simp] theorem openedFrame_length (mark opc : Byte) (k : Nat) : (openedFrame mark opc k).length = 14 + 2 * k := by
  simp only [openedFrame, Config.frameBase, List.length_cons, List.length_replicate]
  omega

/-- Every byte after the marker and the opcode is zero. -/
theorem openedFrame_getD_zero (mark opc : Byte) (k : Nat) {a : Nat} (h : 2 ≤ a) :
    (openedFrame mark opc k).getD a 0 = 0 := by
  obtain ⟨j, rfl⟩ := Nat.exists_eq_add_of_le' h
  simp [openedFrame]

theorem openFrame_read_inside (s : State) (opc : Byte) {k a : Nat} (h : a < 14 + 2 * k) :
    (s.openFrame opc k).txbuf.read a = (openedFrame s.inst.cmdStartMark opc k).getD a 0 := by
  rw [openFrame_txbuf, read_writeBytes, openedFrame_length, if_pos (by omega), Nat.sub_zero]

theorem openFrame_read_outside (s : State) (opc : Byte) {k a : Nat} (h : 14 + 2 * k ≤ a) :
    (s.openFrame opc k).txbuf.read a = s.txbuf.read a := by
  rw [openFrame_txbuf, read_writeBytes_outside (by rw [openedFrame_length]; omega)]

/-- Every frame size that `FRM.OPEN` accepts fits `TX_SIZE`. -/
theorem openFrame_txSize_toNat (s : State) (opc : Byte) {k : Nat} (h : k ≤ 4) :
    (s.openFrame opc k).txSize.toNat = 14 + 2 * k := by
  rw [openFrame_txSize, Config.frameBase, BitVec.toNat_ofNat, Nat.mod_eq_of_lt (by omega)]

/-! ## The operations of the framer, accepted -/

/-- The payload check without a difference of sizes. -/
theorem outsidePayload_iff {s : State} {first last : Nat} (h : first ≤ last) :
    s.outsidePayload first last ↔ first < 2 ∨ last + 5 > s.txSize.toNat := by
  unfold State.outsidePayload
  omega

section
variable {s : State}

theorem exec_frmOpen {k : Nat} (hb : s.rxState ≠ .active) (opc : Byte) (hk : k ≤ 4) :
    exec (.frmOpen opc k) s = complete (s.openFrame opc k) :=
  (unlessBusy_free hb _).trans (refuseIf_neg hk.not_gt _ _ _)

theorem exec_frmPut8 {off : Nat} (hb : s.rxState ≠ .active) (ht : s.txState ≠ .empty) (v : Byte)
    (hlo : 2 ≤ off) (hhi : off + 5 ≤ s.txSize.toNat) :
    exec (.frmPut8 off v) s = complete (s.putPayload off 1 v.toNat) :=
  checks_passed hb ht (by rw [outsidePayload_iff le_rfl]; omega)

theorem exec_frmPut16u {off : Nat} (hb : s.rxState ≠ .active) (ht : s.txState ≠ .empty) (v : BitVec 16)
    (hlo : 2 ≤ off) (hhi : off + 1 + 5 ≤ s.txSize.toNat) :
    exec (.frmPut16u off v) s = complete (s.putPayload off 2 v.toNat) :=
  checks_passed hb ht (by rw [outsidePayload_iff (Nat.le_succ _)]; omega)

/-- On the bits of its operand `FRM.PUT16S` is `FRM.PUT16U`, checks included (R104). -/
theorem exec_frmPut16s (off : Nat) (v : Int) (s : State) :
    exec (.frmPut16s off v) s = exec (.frmPut16u off (BitVec.ofInt 16 v)) s := rfl

theorem exec_frmSeal (hb : s.rxState ≠ .active) (ht : s.txState ≠ .empty) :
    exec .frmSeal s = answerWith (s.checksum s.coveredBytes) s.sealFrame :=
  (unlessBusy_free hb _).trans (refuseIf_neg ht _ _ _)

theorem exec_frmSend (hb : s.rxState ≠ .active) (ht : s.txState = .sealed) :
    exec .frmSend s = complete { s with txq := s.txq ++ s.txbuf.readBytes 0 s.txSize.toNat } :=
  (unlessBusy_free hb _).trans (refuseIf_neg (not_not_intro ht) _ _ _)

theorem exec_frmGet {off : Nat} (hb : s.rxState ≠ .active) (ht : s.txState ≠ .empty) (ho : off < s.txSize.toNat) :
    exec (.frmGet off) s = answerWith ((s.txbuf.read off).zeroExtend 32) s :=
  checks_passed hb ht ho.not_ge

end

/-- The bytes `FRM.SEAL` covers (R105), as the offsets they stand at. -/
theorem coveredBytes_eq_map (s : State) :
    s.coveredBytes = (List.range (s.txSize.toNat - 4)).map s.txbuf.read := readBytes_eq_map _ _

/-! ## The obligations of 41_framer.md -/

/-- Settles O36: the frame written at offset 0 is read back below its length, the old bytes above it. -/
theorem frmOpenStartsZeroFilledFrame : Obligations.FrmOpenStartsZeroFilledFrame := by
  refine ⟨decode_frmOpen, fun opc k s hb => ⟨fun hk => ?_, fun hk => ?_⟩⟩
  · exact (unlessBusy_free hb _).trans (refuseIf_pos hk _ _ _)
  · refine ⟨_, exec_frmOpen hb opc hk, rfl, openFrame_txSize_toNat s opc hk, ?_, ?_, fun a hlo hhi => ?_, fun a ha => ?_⟩
    · exact openFrame_read_inside s opc (by omega)
    · exact openFrame_read_inside s opc (by omega)
    · exact (openFrame_read_inside s opc hhi).trans (openedFrame_getD_zero _ _ _ hlo)
    · exact openFrame_read_outside s opc ha

/-- Settles O37: the checks in their order, then a `MemWrite` of one byte. -/
theorem frmPut8WritesOneByte : Obligations.FrmPut8WritesOneByte := by
  refine ⟨decode_frmPut8, fun off v s hb => ⟨checks_seq hb, fun ht ho => ?_, fun ht hlo hhi => ?_⟩⟩
  · exact checks_range hb ht ((outsidePayload_iff le_rfl).2 ho)
  · refine ⟨_, exec_frmPut8 hb ht v hlo hhi, rfl, ?_, fun a ha => read_memWrite_outside (by omega)⟩
    exact (read_memWrite_inside Nat.one_pos s.txbuf off v).trans BitVec.extractLsb'_eq_self

/-- Settles O38: as O37, with a `MemWrite` of two bytes. -/
theorem frmPut16uWritesLittleEndian : Obligations.FrmPut16uWritesLittleEndian := by
  refine ⟨decode_frmPut16u, fun off v s hb => ⟨checks_seq hb, fun ht ho => ?_, fun ht hlo hhi => ?_⟩⟩
  · exact checks_range hb ht ((outsidePayload_iff (Nat.le_succ _)).2 ho)
  · exact ⟨_, exec_frmPut16u hb ht v hlo hhi, rfl, read_memWrite_inside Nat.two_pos s.txbuf off v,
      read_memWrite_inside Nat.one_lt_two s.txbuf off v, fun a h0 h1 => read_memWrite_outside (by omega)⟩

/-- Settles O39: `FRM.PUT16U` on the encoded bits (O38), whose two bytes make up the value modulo `2^16`. -/
theorem frmPut16sWritesTwosComplement : Obligations.FrmPut16sWritesTwosComplement := by
  refine ⟨decode_frmPut16s, fun off v s hb _ _ => ?_⟩
  obtain ⟨seq, range, written⟩ := frmPut16uWritesLittleEndian.2 off (BitVec.ofInt 16 v) s hb
  refine ⟨seq, range, fun ht hlo hhi => ?_, exec_frmPut16s off v s⟩
  obtain ⟨t, hexec, hframe, hlow, hhigh, hother⟩ := written ht hlo hhi
  refine ⟨t, hexec, hframe, ?_, hother⟩
  have bytes := toNat_bytes (BitVec.ofInt 16 v)
  rw [BitVec.toNat_ofInt] at bytes
  rw [hlow, hhigh]
  omega

/-- Settles O40: the checksum run over the covered bytes, then a `MemWrite` of its four bytes at the trailer. -/
theorem frmSealStampsChecksum : Obligations.FrmSealStampsChecksum := by
  refine ⟨by decide, fun s hb => ⟨checks_seq hb, fun ht hn => ?_⟩⟩
  refine ⟨_, _, exec_frmSeal hb ht, rfl, ?_, fun j hj => ?_, fun a ha => ?_⟩
  · rw [← coveredBytes_eq_map]; rfl
  · rw [← coveredBytes_eq_map]
    exact read_memWrite_inside hj s.txbuf s.trailerAt (s.checksum s.coveredBytes)
  · refine read_memWrite_outside ?_
    rw [State.trailerAt, Config.crcLen]
    omega

/-- Settles O41. -/
theorem frmSendAppendsSealedFrame : Obligations.FrmSendAppendsSealedFrame := by
  refine ⟨by decide, fun s hb => ⟨checks_seq hb, fun ht => ?_⟩⟩
  rw [exec_frmSend hb ht, readBytes_eq_map]
  rfl

/-- Settles O42. -/
theorem frmGetReadsOneByte : Obligations.FrmGetReadsOneByte := by
  refine ⟨decode_frmGet, fun off s hb => ⟨checks_seq hb, checks_range hb, fun ht ho => ?_⟩⟩
  rw [exec_frmGet hb ht ho, BitVec.ofNat_toNat]
  rfl

end Sys2Proof.Machine
end

section
/-! PROOFS. 42_reassembler.md: the host's three operations of the reassembler (R121 to R123), and the sequencer's two steps
(R124, R125, R127). What `MemRead` reads is said byte by byte once (`memRead_eq_toNat_iff`), for the trailer's comparison. -/

namespace Sys2Proof

/-! ## Operation words -/

theorem decode_rxStart (e : BitVec 16) : decode (0x20#8 ++ 0#8 ++ e ++ 0#32) = .ok (.rxStart e.toNat) :=
  decode_word ⟨0x20, 0, e, 0⟩

theorem decode_rxGet (j : BitVec 16) : decode (0x21#8 ++ 0#8 ++ j ++ 0#32) = .ok (.rxGet j.toNat) :=
  decode_word ⟨0x21, 0, j, 0⟩

theorem decode_rxRaw (j : BitVec 32) : decode (0x22#8 ++ 0#8 ++ 0#16 ++ j) = .ok (.rxRaw j.toNat) :=
  decode_word ⟨0x22, 0, 0, j⟩

end Sys2Proof

namespace Sys2Proof.Machine

/-! ## The bytes that `MemRead` assembles (R41) -/

/-- Byte `j` of what `MemRead` gives is the byte at offset `a + j`. -/
theorem read_eq_memRead_byte {n j : Nat} (h : j < n) (m : Memory) (a : Nat) :
    m.read (a + j) = BitVec.ofNat 8 (m.memRead a n / 256 ^ j) := by
  induction n generalizing j a with
  | zero => omega
  | succ n ih =>
    rw [Memory.memRead]
    have hlow := (m.read a).isLt
    cases j with
    | zero =>
      apply BitVec.eq_of_toNat_eq
      rw [BitVec.toNat_ofNat, Nat.pow_zero, Nat.add_zero]
      omega
    | succ j =>
      have hrest : ((m.read a).toNat + 256 * m.memRead (a + 1) n) / 256 = m.memRead (a + 1) n := by omega
      rw [Nat.pow_succ', ← Nat.div_div_eq_div_mul, hrest, ← ih (by omega), Nat.add_right_comm, Nat.add_assoc]

/-- `MemRead` gives a value exactly where the value's bytes stand, the low one first. -/
theorem memRead_eq_toNat_iff {w n : Nat} (hw : w ≤ 8 * n) (m : Memory) (a : Nat) (v : BitVec w) :
    m.memRead a n = v.toNat ↔ ∀ j, j < n → m.read (a + j) = v.extractLsb' (8 * j) 8 := by
  constructor
  · intro h j hj
    rw [read_eq_memRead_byte hj, h, extractLsb'_byte]
  · intro h
    have hv : v.toNat < 256 ^ n := calc
      v.toNat < 2 ^ w := v.isLt
      _ ≤ 2 ^ (8 * n) := Nat.pow_le_pow_right Nat.two_pos hw
      _ = 256 ^ n := Nat.pow_mul 2 8 n
    rw [memRead_of_littleEndian m a n v.toNat fun j hj => by rw [h j hj, littleEndian_getD hj, extractLsb'_byte],
      Nat.mod_eq_of_lt hv]

/-! ## The operations of the reassembler, accepted (R121 to R123) -/

section
variable {s : State}

theorem exec_rxStart (hb : s.rxState ≠ .active) (e : BitVec 16) :
    exec (.rxStart e.toNat) s = .next { s with
      rxExpect := e, rxCount := 0, rxIter := 0, rxOk := false, rxType := s.inst.failType, rxDecl := 0, rxPlen := 0
      rxState := .active, answer := some ⟨0, false⟩ } := by
  have hexec : exec (.rxStart e.toNat) s = complete { s.noResult with
      rxExpect := BitVec.ofNat 16 e.toNat, rxCount := 0, rxIter := 0, rxState := .active } := unlessBusy_free hb _
  rw [hexec, BitVec.ofNat_toNat, BitVec.setWidth_eq]
  rfl

theorem exec_rxGet {j : Nat} (hd : s.rxState = .done) (hj : j < s.rxPlen.toNat) :
    exec (.rxGet j) s = answerWith ((s.rxbuf.read (4 + j)).zeroExtend 32) s :=
  checks_passed (by simp [hd]) (not_not_intro hd) hj.not_ge

theorem exec_rxRaw {j : Nat} (hd : s.rxState = .done) (hj : j < s.rxCount.toNat) :
    exec (.rxRaw j) s = answerWith ((s.rxbuf.read j).zeroExtend 32) s :=
  checks_passed (by simp [hd]) (not_not_intro hd) hj.not_ge

end

/-! ## Which step the sequencer takes (R124, R125) -/

section
variable {s : State}

theorem step_sequencer {rest : List Event} (h : s.pending = .sequencer :: rest) :
    step s = .next (sequencerStep { s with pending := rest }) := step_scheduled h

theorem sequencerStep_of_pollEnabled (h : s.pollEnabled = true) : sequencerStep s = poll s := if_pos h

theorem sequencerStep_of_not_pollEnabled (h : s.pollEnabled = false) (ha : s.rxState = .active) :
    sequencerStep s = finish s := by
  simp [sequencerStep, State.completeEnabled, ha, h]

/-- When a poll is not enabled, in numbers. -/
theorem pollEnabled_false_iff (s : State) : s.pollEnabled = false ↔
    s.rxState ≠ .active ∨ s.rxExpect.toNat + 8 ≤ s.rxCount.toNat ∨
      s.inst.retryBudget.toNat ≤ s.rxIter.toNat := by
  rw [← Bool.not_eq_true, pollEnabled_iff, not_and_or, not_and_or, not_lt, not_lt]

/-! ## `RX.POLL` (R124) -/

theorem pollTake_eq (s : State) : s.pollTake = min s.rxq.length (65543 - s.rxCount.toNat) := rfl

/-- A poll takes no more than there is. -/
theorem taken_length (s : State) : (s.rxq.take s.pollTake).length = s.pollTake :=
  List.length_take_of_le (Nat.min_le_left _ _)

/-- `RXBUF` holds what a poll takes, so `RX_COUNT` does not wrap. -/
theorem poll_rxCount_toNat (h : s.rxCount.toNat ≤ 65543) :
    (poll s).rxCount.toNat = s.rxCount.toNat + s.pollTake := by
  have := pollTake_eq s
  rw [poll_rxCount, BitVec.toNat_add, BitVec.toNat_ofNat]
  omega

/-- Below the budget `RX_ITER` does not wrap. -/
theorem poll_rxIter_toNat (h : s.rxIter.toNat < s.inst.retryBudget.toNat) :
    (poll s).rxIter.toNat = s.rxIter.toNat + 1 := by
  have := s.inst.retryBudget.isLt
  rw [poll_rxIter]
  exact BitVec.toNat_add_of_lt (show _ + 1 < _ by omega)

theorem poll_read_taken {j : Nat} (h : j < s.pollTake) :
    (poll s).rxbuf.read (s.rxCount.toNat + j) = s.rxq.getD j 0 := by
  rw [poll_rxbuf, read_writeBytes_inside (by rwa [taken_length]), List.getD_eq_getElem?_getD,
    List.getD_eq_getElem?_getD, List.getElem?_take_of_lt h]

theorem poll_read_other {a : Nat} (h : a < s.rxCount.toNat ∨ s.rxCount.toNat + s.pollTake ≤ a) :
    (poll s).rxbuf.read a = s.rxbuf.read a := by
  rw [poll_rxbuf, read_writeBytes_outside (by rwa [taken_length])]

/-! ## `RX.COMPLETE` (R125, R127) -/

/-- `RX.COMPLETE` leaves what was gathered as it is. -/
theorem finish_gathered (s : State) :
    (finish s).rxIter = s.rxIter ∧ (finish s).rxCount = s.rxCount ∧ (finish s).rxbuf = s.rxbuf := by
  obtain ⟨-, h⟩ | ⟨-, -, h⟩ | ⟨-, -, -, -, h⟩ | ⟨-, -, -, -, h⟩ | ⟨-, -, -, h⟩ := finish_cases s <;> simp [h]

/-- Where no poll is enabled the sequencer gathers nothing and counts nothing. -/
theorem sequencerStep_gathered (h : s.pollEnabled = false) :
    (sequencerStep s).rxIter = s.rxIter ∧ (sequencerStep s).rxCount = s.rxCount ∧
      (sequencerStep s).rxq = s.rxq ∧ (sequencerStep s).rxbuf = s.rxbuf := by
  obtain ⟨-, hs⟩ | ⟨hp, -⟩ | ⟨-, -, hs⟩ := sequencerStep_cases s
  · simp [hs]
  · simp [h] at hp
  · obtain ⟨hiter, hcount, hbuf⟩ := finish_gathered s
    rw [hs]
    exact ⟨hiter, hcount, finish_rxq s, hbuf⟩

/-- The declared length in its two bytes (R125). -/
theorem declared_eq (s : State) : s.declared = (s.rxbuf.read 2).toNat + 256 * (s.rxbuf.read 3).toNat := rfl

/-- The raw accumulator over header and payload (R127), the bytes as the offsets they stand at. -/
theorem rawSum_responseCovered (s : State) : s.rawSum s.responseCovered =
    foldBytes s.inst.crcFold s.crcPoly s.crcInit ((List.range (4 + s.declared)).map s.rxbuf.read) := by
  rw [State.rawSum, State.responseCovered, readBytes_eq_map]
  rfl

theorem trailerPresent_iff (s : State) : s.trailerPresent = true ↔ s.declared + 8 ≤ s.rxCount.toNat :=
  decide_eq_true_iff

/-- The comparison of `crc_ok` (R127), byte by byte. -/
theorem trailerMatches_iff (s : State) : s.trailerMatches = true ↔ ∀ j, j < 4 →
    s.rxbuf.read (4 + s.declared + j) =
      (s.rawSum s.responseCovered ^^^ s.crcXorout).extractLsb' (8 * j) 8 := by
  rw [State.trailerMatches, beq_iff_eq, eq_comm]
  exact memRead_eq_toNat_iff (w := 32) le_rfl s.rxbuf (4 + s.declared) (s.checksum s.responseCovered)

theorem finish_invalid (hv : ¬s.responseValid = true) : finish s = s.failResponse := if_neg hv

theorem finish_unverified (hv : s.responseValid = true) (hc : s.ctrl = 0) : finish s = s.acceptResponse := by
  simp [finish, State.rxCrcEn, hv, hc]

theorem finish_verified (hv : s.responseValid = true) (hc : s.ctrl = 1) : finish s = s.verifyResponse := by
  simp [finish, State.rxCrcEn, hv, hc]

theorem finish_short (hv : s.responseValid = true) (hc : s.ctrl = 1) (h : s.rxCount.toNat < s.declared + 8) :
    finish s = (s.raise .rxcrc).failResponse :=
  (finish_verified hv hc).trans (if_neg ((trailerPresent_iff s).not.2 h.not_ge))

theorem finish_matching (hv : s.responseValid = true) (hc : s.ctrl = 1) (h : s.declared + 8 ≤ s.rxCount.toNat)
    (hm : s.trailerMatches = true) : finish s = (s.runChecksum s.responseCovered).acceptResponse :=
  (finish_verified hv hc).trans ((if_pos ((trailerPresent_iff s).2 h)).trans (if_pos hm))

theorem finish_mismatching (hv : s.responseValid = true) (hc : s.ctrl = 1) (h : s.declared + 8 ≤ s.rxCount.toNat)
    (hm : ¬s.trailerMatches = true) : finish s = ((s.runChecksum s.responseCovered).raise .rxcrc).failResponse :=
  (finish_verified hv hc).trans ((if_pos ((trailerPresent_iff s).2 h)).trans (if_neg hm))

/-- The sequencer's scheduled step where the target is reached or the budget is spent. -/
theorem step_completes {rest : List Event} (hp : s.pending = .sequencer :: rest) (ha : s.rxState = .active)
    (hend : s.rxExpect.toNat + 8 ≤ s.rxCount.toNat ∨ s.rxIter = s.inst.retryBudget) :
    step s = .next (finish { s with pending := rest }) := by
  have hbudget : s.rxIter = s.inst.retryBudget → s.inst.retryBudget.toNat ≤ s.rxIter.toNat := fun h => by rw [h]
  have hoff := (pollEnabled_false_iff { s with pending := rest }).2 (.inr (hend.imp_right hbudget))
  rw [step_sequencer hp, sequencerStep_of_not_pollEnabled hoff ha]

end

/-! ## The obligations of 42_reassembler.md -/

/-- Settles O47. -/
theorem rxStartBeginsReassembly : Obligations.RxStartBeginsReassembly :=
  ⟨decode_rxStart, fun e _ hb => exec_rxStart hb e⟩

/-- Settles O48: the two checks in their order, then the byte read. -/
theorem rxGetReadsPayload : Obligations.RxGetReadsPayload := by
  refine ⟨decode_rxGet, fun j s => ⟨fun hi => ?_, fun hd => ?_, fun hd hj => ?_⟩⟩
  · exact checks_seq (by simp [hi]) (by simp [hi])
  · exact checks_range (by simp [hd]) (not_not_intro hd)
  · rw [exec_rxGet hd hj, BitVec.ofNat_toNat]
    rfl

/-- Settles O49: as O48, with `RX_COUNT` for `RX_PLEN` and no header passed over. -/
theorem rxRawReadsGatheredByte : Obligations.RxRawReadsGatheredByte := by
  refine ⟨decode_rxRaw, fun j s => ⟨fun hi => ?_, fun hd => ?_, fun hd hj => ?_⟩⟩
  · exact checks_seq (by simp [hi]) (by simp [hi])
  · exact checks_range (by simp [hd]) (not_not_intro hd)
  · rw [exec_rxRaw hd hj, BitVec.ofNat_toNat]
    rfl

/-- Settles O50: an enabled poll wraps neither `RX_COUNT`, which below its target is at most the size of `RXBUF`, nor
`RX_ITER`, which is below the budget; without an enabled poll, `sequencerStep_gathered`. -/
theorem pollGathersWhatIsThere : Obligations.PollGathersWhatIsThere := by
  intro s rest hp
  rw [step_sequencer hp]
  refine ⟨fun ha hcount hiter => ?_, fun hoff => ?_⟩
  · have hfits : s.rxCount.toNat ≤ 65543 := by have := s.rxExpect.isLt; omega
    have hon := (pollEnabled_iff { s with pending := rest }).2 ⟨ha, hcount, hiter⟩
    rw [sequencerStep_of_pollEnabled hon]
    exact ⟨_, _, rfl, pollTake_eq _, rfl, poll_rxCount_toNat hfits, poll_rxIter_toNat hiter,
      fun _ => poll_read_taken, fun _ => poll_read_other⟩
  · obtain ⟨hiter, hcount, hq, hbuf⟩ := sequencerStep_gathered
      ((pollEnabled_false_iff { s with pending := rest }).2 hoff)
    exact ⟨_, rfl, hiter, hcount, hq, fun a => by rw [hbuf]⟩

/-- Settles O51: the step is `finish`, one of its branches per clause, on the state less that step of the schedule. -/
theorem completeGivesTheResult : Obligations.CompleteGivesTheResult := by
  intro s rest L raw hp ha hend hL hraw
  rw [← declared_eq] at hL
  subst hL
  rw [← rawSum_responseCovered] at hraw
  subst hraw
  rw [step_completes hp ha hend]
  have hvalid := responseValid_iff { s with pending := rest }
  have htrailer := trailerMatches_iff { s with pending := rest }
  refine ⟨fun hbad => ?_, fun h8 hmark => ?_⟩
  · have hinvalid := hvalid.not.2 fun ⟨h8, hmark⟩ => hbad.elim h8.not_gt (absurd hmark)
    rw [finish_invalid hinvalid]
    rfl
  · have hv := hvalid.2 ⟨h8, hmark⟩
    refine ⟨fun hc => ?_, fun hc hshort => ?_, fun hc hlong => ⟨fun heq => ?_, fun ⟨j, hj, hne⟩ => ?_⟩⟩
    · rw [finish_unverified hv hc]
      rfl
    · rw [finish_short hv hc hshort]
      rfl
    · rw [finish_matching hv hc hlong (htrailer.2 heq)]
      rfl
    · rw [finish_mismatching hv hc hlong fun hm => hne (htrailer.1 hm j hj)]
      rfl

end Sys2Proof.Machine
end

section
/-! PROOFS. 43_config.md: the two configuration operations (R150, R151). The register map of R34 is said once as natural
numbers (`readReg_toNat`), and so is when a value fits the low bits that a register uses (`extractLsb'_eq_zero_iff`). -/

namespace Sys2Proof

/-! ## Operation words -/

theorem decode_cfgRd (r : Byte) : decode (0x30#8 ++ r ++ 0#16 ++ 0#32) = .ok (.cfgRd r.toNat) :=
  decode_word ⟨0x30, r, 0, 0⟩

theorem decode_cfgWr (r : Byte) (v : Word) : decode (0x31#8 ++ r ++ 0#16 ++ v) = .ok (.cfgWr r.toNat v) :=
  decode_word ⟨0x31, r, 0, v⟩

/-! ## Fields of a register -/

/-- The number of a register put together from two fields, the high one first. -/
theorem toNat_fields {m n : Nat} (high : BitVec m) (low : BitVec n) :
    (high ++ low).toNat = 2 ^ n * high.toNat + low.toNat := by
  rw [BitVec.toNat_append, ← Nat.shiftLeft_add_eq_or_of_lt low.isLt, Nat.shiftLeft_eq, Nat.mul_comm]

/-- The bits from `k` upward are zero exactly where the value fits the bits below. -/
theorem extractLsb'_eq_zero_iff {w k m : Nat} (hw : w ≤ k + m) (v : BitVec w) :
    v.extractLsb' k m = 0 ↔ v.toNat < 2 ^ k := by
  have hv : v.toNat / 2 ^ k < 2 ^ m := Nat.div_lt_of_lt_mul <| calc
    v.toNat < 2 ^ w := v.isLt
    _ ≤ 2 ^ (k + m) := Nat.pow_le_pow_right Nat.two_pos hw
    _ = 2 ^ k * 2 ^ m := Nat.pow_add 2 k m
  rw [← BitVec.toNat_inj, BitVec.extractLsb'_toNat, Nat.shiftRight_eq_div_pow, Nat.mod_eq_of_lt hv]
  exact Nat.div_eq_zero_iff_lt (Nat.two_pow_pos k)

end Sys2Proof

namespace Sys2Proof.Machine

/-! ## The register map (R34) -/

/-- `STATUS` as a number (R17): `TX_STATE`, `RX_STATE` and `RX_OK` in their bits; `status_toNat` ties it to the view. -/
def State.statusNumber (s : State) : Nat :=
  (match s.txState with | .empty => 0 | .opened => 1 | .sealed => 2)
    + 4 * (match s.rxState with | .idle => 0 | .active => 1 | .done => 2) + 16 * s.rxOk.toNat

/-- `ID` as a number (R33): the markers, `K_MAX` and `CRC_FOLD` in their bits; `ident_toNat` ties it to the view. -/
def State.identNumber (s : State) : Nat :=
  s.inst.cmdStartMark.toNat + 256 * s.inst.rspStartMark.toNat + 65536 * 4
    + 16777216 * (match s.inst.crcFold with | .msb8 => 0 | .word32 => 1)

/-- The numbers in the sixteen registers, in the order of R34; `readReg_toNat` ties them to the register read. -/
def State.registerNumbers (s : State) : List Nat :=
  [s.crcPoly.toNat, s.crcInit.toNat, s.crcXorout.toNat, s.crcAcc.toNat, s.ctrl.toNat, s.statusNumber,
    s.err.toNat, s.txSize.toNat, s.rxExpect.toNat, s.rxCount.toNat, s.rxIter.toNat, s.rxType.toNat,
    s.rxDecl.toNat, s.rxPlen.toNat, s.inst.retryBudget.toNat, s.identNumber]

theorem status_toNat (s : State) : s.status.toNat = s.statusNumber := by
  simp only [State.status, toNat_fields, State.statusNumber]
  cases s.txState <;> cases s.rxState <;> cases s.rxOk <;> rfl

theorem ident_toNat (s : State) : s.ident.toNat = s.identNumber := by
  have kMax : (BitVec.ofNat 8 Config.kMax).toNat = 4 := rfl
  simp only [State.ident, toNat_fields, kMax, State.identNumber]
  cases s.inst.crcFold with
  | msb8 => simp only [foldCode, BitVec.ofNat_eq_ofNat, BitVec.toNat_ofNat]; omega
  | word32 => simp only [foldCode, BitVec.ofNat_eq_ofNat, BitVec.toNat_ofNat]; omega

/-- What a register reads as a number: the used bits, zero above them. -/
theorem readReg_toNat {s : State} {r : Nat} {v : Word} (h : s.readReg r = some v) :
    v.toNat = s.registerNumbers.getD r 0 := by
  unfold State.readReg at h
  split at h <;> cases h
  case h_1 | h_2 | h_3 | h_4 | h_11 | h_15 => rfl
  case h_5 | h_7 | h_8 | h_9 | h_10 | h_12 | h_13 | h_14 => exact BitVec.toNat_setWidth_of_le (by decide)
  case h_6 => exact status_toNat s
  case h_16 => exact ident_toNat s

/-! ## `CFG.RD` (R150) -/

section
variable {s : State} {r : Nat}

theorem exec_cfgRd {v : Word} (h : s.readReg r = some v) :
    exec (.cfgRd r) s = .next { s with answer := some ⟨v, false⟩ } := by
  rw [exec, execCfgRd, h]
  rfl

theorem exec_cfgRd_range (h : 0x0F < r) :
    exec (.cfgRd r) s = .next { s with err := s.err ||| 8, answer := some ⟨0, true⟩ } := by
  rw [exec, execCfgRd, readReg_none h]
  rfl

end

/-! ## `CFG.WR` (R151) -/

section
variable {s : State} (hb : s.rxState ≠ .active) (v : Word)
include hb

theorem exec_cfgWr_crcPoly : exec (.cfgWr 0x00 v) s = complete { s.dropSeal with crcPoly := v } :=
  unlessBusy_free hb _

theorem exec_cfgWr_crcInit : exec (.cfgWr 0x01 v) s = complete { s.dropSeal with crcInit := v } :=
  unlessBusy_free hb _

theorem exec_cfgWr_crcXorout : exec (.cfgWr 0x02 v) s = complete { s.dropSeal with crcXorout := v } :=
  unlessBusy_free hb _

/-- `CTRL` has one bit to write; any other bit set is refused. -/
theorem exec_cfgWr_ctrl : exec (.cfgWr 0x04 v) s =
    refuseIf (¬v.toNat < 2) .range s (complete { s with ctrl := BitVec.ofNat 1 v.toNat }) := by
  have reserved := extractLsb'_eq_zero_iff (k := 1) (m := 31) le_rfl v
  exact (unlessBusy_free hb _).trans (by simp only [refuseIf, ne_eq, reserved]; rfl)

/-- `ERR` has five bits to clear; any other bit set is refused. -/
theorem exec_cfgWr_err : exec (.cfgWr 0x06 v) s =
    refuseIf (¬v.toNat < 32) .range s (complete (s.clearErr (BitVec.ofNat 5 v.toNat))) := by
  have reserved := extractLsb'_eq_zero_iff (k := 5) (m := 27) le_rfl v
  exact (unlessBusy_free hb _).trans (by simp only [refuseIf, ne_eq, reserved]; rfl)

theorem exec_cfgWr_range {r : Nat} (hr : r ∉ [0x00, 0x01, 0x02, 0x04, 0x06]) :
    exec (.cfgWr r v) s = .next (s.refuse .range) := by
  refine (unlessBusy_free hb _).trans ?_
  split
  case h_6 => rfl
  all_goals exact absurd (by decide) hr

end

/-! ## The obligations of 43_config.md -/

/-- Settles O56: a register up to 0x0F is there to read (`readReg_isSome_iff`), and its number is in the map. -/
theorem cfgRdReadsEveryRegister : Obligations.CfgRdReadsEveryRegister := by
  refine ⟨decode_cfgRd, fun _ _ hr => exec_cfgRd_range hr, fun r s hr => ?_⟩
  obtain ⟨v, hv⟩ := Option.isSome_iff_exists.1 ((readReg_isSome_iff s r).2 hr)
  exact ⟨v, exec_cfgRd hv, readReg_toNat hv⟩

/-- Settles O57: each register by its own equation, the two with reserved bits on both sides of their check. -/
theorem cfgWrWritesOnlyWritable : Obligations.CfgWrWritesOnlyWritable :=
  ⟨decode_cfgWr, fun v _ hb => ⟨exec_cfgWr_crcPoly hb v, exec_cfgWr_crcInit hb v, exec_cfgWr_crcXorout hb v,
    fun hv => (exec_cfgWr_ctrl hb v).trans (refuseIf_neg (not_not_intro hv) _ _ _),
    fun hv => (exec_cfgWr_ctrl hb v).trans (refuseIf_pos hv.not_gt _ _ _),
    fun hv => (exec_cfgWr_err hb v).trans (refuseIf_neg (not_not_intro hv) _ _ _),
    fun hv => (exec_cfgWr_err hb v).trans (refuseIf_pos hv.not_gt _ _ _),
    fun _ hr => exec_cfgWr_range hb v hr⟩⟩

end Sys2Proof.Machine
end

section
/-! PROOFS. 60_exceptions.md: the refusals (R161 to R166) and `RXCRC` (R171). Which check refuses an operation is said once,
as a function of the state (`State.refusal`), and `exec_eq` ties it to `exec`; the lists of R163 to R165 are read off it. -/

namespace Sys2Proof

/-! ## A legal word lies in its row (R63, R64) -/

/-- A "low 8" operand fills the halfword whose high byte is zero. -/
theorem lowHalf_of_high_zero {h : BitVec 16} (hz : h.extractLsb' 8 8 = 0) : lowHalf (h.extractLsb' 0 8) = h := by
  have hlt := (extractLsb'_eq_zero_iff (k := 8) (m := 8) le_rfl h).1 hz
  apply BitVec.eq_of_toNat_eq
  rw [lowHalf, BitVec.zeroExtend_eq_setWidth, BitVec.toNat_setWidth_of_le (by decide), BitVec.extractLsb'_toNat,
    Nat.shiftRight_zero, Nat.mod_eq_of_lt hlt]

theorem op_eq_of_toNat {f : Fields} {n : Nat} (h : f.op.toNat = n) : f.op = BitVec.ofNat 8 n := by
  rw [← h, BitVec.ofNat_toNat, BitVec.setWidth_eq]

/-- The decoder drops no bit: what it decodes to has the fields it was decoded from. -/
theorem fields_of_decode {f : Fields} {i : Instr} (h : f.decode = .ok i) : i.fields = f := by
  obtain ⟨op, a, half, d⟩ := f
  unfold Fields.decode at h
  split at h
  case h_18 => cases h
  all_goals
    rename_i hop
    obtain ⟨hzero, rfl⟩ := legalIf_ok h
    obtain rfl := op_eq_of_toNat hop
    simp only [Bool.and_eq_true, beq_iff_eq, Fields.hHigh] at hzero
    simp_all only [Instr.fields, Fields.hLow, lowHalf_of_high_zero, BitVec.ofNat_toNat, BitVec.setWidth_eq,
      BitVec.ofInt_toInt, BitVec.ofNat_eq_ofNat]

theorem encode_of_decode {w : OpWord} {i : Instr} (h : decode w = .ok i) : encode i = w := by
  rw [encode, fields_of_decode h, OpWord.word_fields]

/-- The word of an operation lies in the row of that operation. -/
theorem encode_and_mask (i : Instr) : encode i &&& i.tableRow.mask = i.tableRow.pattern := by
  cases i with
  | crcInit => exact Laws.EncodesInItsRow.crcInit
  | crcByte b => exact Laws.EncodesInItsRow.crcByte b
  | crcRead => exact Laws.EncodesInItsRow.crcRead
  | crcRuntx n => exact Laws.EncodesInItsRow.crcRuntx n
  | crcRunrx n => exact Laws.EncodesInItsRow.crcRunrx n
  | frmOpen opc k => exact Laws.EncodesInItsRow.frmOpen opc k
  | frmPut8 off v => exact Laws.EncodesInItsRow.frmPut8 off v
  | frmPut16u off v => exact Laws.EncodesInItsRow.frmPut16u off v
  | frmPut16s off v => exact Laws.EncodesInItsRow.frmPut16s off v
  | frmSeal => exact Laws.EncodesInItsRow.frmSeal
  | frmSend => exact Laws.EncodesInItsRow.frmSend
  | frmGet off => exact Laws.EncodesInItsRow.frmGet off
  | rxStart e => exact Laws.EncodesInItsRow.rxStart e
  | rxGet idx => exact Laws.EncodesInItsRow.rxGet idx
  | rxRaw idx => exact Laws.EncodesInItsRow.rxRaw idx
  | cfgRd r => exact Laws.EncodesInItsRow.cfgRd r
  | cfgWr r v => exact Laws.EncodesInItsRow.cfgWr r v

theorem tableRow_mem (i : Instr) : i.tableRow ∈ opcodeTable := by
  cases i <;> simp [opcodeTable, Instr.tableRow]

/-- A word that lies in no row has no operation. -/
theorem decode_error_of_no_row {w : OpWord} (h : ∀ r ∈ opcodeTable, w &&& r.mask ≠ r.pattern) :
    ∃ e, decode w = .error e := by
  cases hd : decode w with
  | error e => exact ⟨e, rfl⟩
  | ok i => exact absurd (encode_of_decode hd ▸ encode_and_mask i) (h _ (tableRow_mem i))

end Sys2Proof

namespace Sys2Proof.Machine

/-! ## Which check refuses an operation (R65, R163 to R166) -/

/-- The `BUSY` check (R163). -/
def State.busyFails (s : State) : Instr → Bool
  | .cfgRd _ => false
  | _ => s.rxState = .active

/-- The `SEQ` check of each operation (R164). -/
def State.seqFails (s : State) : Instr → Bool
  | .crcRuntx _ | .frmPut8 _ _ | .frmPut16u _ _ | .frmPut16s _ _ | .frmSeal | .frmGet _ => s.txState = .empty
  | .frmSend => s.txState ≠ .sealed
  | .crcRunrx _ | .rxGet _ | .rxRaw _ => s.rxState ≠ .done
  | .crcInit | .crcByte _ | .crcRead | .frmOpen _ _ | .rxStart _ | .cfgRd _ | .cfgWr _ _ => false

/-- A `CFG.WR` that R151 does not allow: the register cannot be written, or a reserved bit is set. -/
def cfgWrOutOfRange (r : Nat) (v : Word) : Bool :=
  match r with
  | 0x00 | 0x01 | 0x02 => false
  | 0x04 => v.extractLsb' 1 31 ≠ 0
  | 0x06 => v.extractLsb' 5 27 ≠ 0
  | _ => true

/-- The `RANGE` check of each operation (R165). -/
def State.rangeFails (s : State) : Instr → Bool
  | .frmOpen _ k => k > Config.kMax
  | .frmPut8 off _ => s.outsidePayload off off
  | .frmPut16u off _ | .frmPut16s off _ => s.outsidePayload off (off + 1)
  | .frmGet off => off ≥ s.txSize.toNat
  | .crcRuntx n => n > s.txSize.toNat
  | .crcRunrx n => n > s.rxCount.toNat
  | .rxGet idx => idx ≥ s.rxPlen.toNat
  | .rxRaw idx => idx ≥ s.rxCount.toNat
  | .cfgRd r => r > 0x0F
  | .cfgWr r v => cfgWrOutOfRange r v
  | .crcInit | .crcByte _ | .crcRead | .frmSeal | .frmSend | .rxStart _ => false

/-- The flag of the first check that fails, in the order of R65. -/
def firstFailure (busy seq range : Bool) : Option ErrFlag :=
  if busy then some .busy else if seq then some .seq else if range then some .range else none

/-- The flag with which an operation is refused, if it is; `exec_eq` ties it to `exec`. -/
def State.refusal (s : State) (i : Instr) : Option ErrFlag :=
  firstFailure (s.busyFails i) (s.seqFails i) (s.rangeFails i)

/-- The three checks in front of an operation's effect are `firstFailure`. -/
theorem checks_eq (c d : Prop) [Decidable c] [Decidable d] (s u : State) :
    unlessBusy s (refuseIf c .seq s (refuseIf d .range s (.next u))) =
      .next ((firstFailure (s.rxState = .active) c d).elim u s.refuse) := by
  by_cases hb : s.rxState = .active
  · simp [unlessBusy_active, firstFailure, hb]
  · by_cases hc : c
    · simp [unlessBusy_free, refuseIf_pos, firstFailure, hb, hc]
    · by_cases hd : d
      · simp [unlessBusy_free, refuseIf_neg, refuseIf_pos, firstFailure, hb, hc, hd]
      · simp [unlessBusy_free, refuseIf_neg, firstFailure, hb, hc, hd]

theorem execCfgRd_eq (r : Nat) (s : State) :
    execCfgRd r s = .next ((s.refusal (.cfgRd r)).elim (s.accepted (.cfgRd r)) s.refuse) := by
  by_cases hr : 0x0F < r
  · simp [execCfgRd, readReg_none hr, State.refusal, State.busyFails, State.seqFails, State.rangeFails,
      firstFailure, hr]
  · obtain ⟨v, hv⟩ := Option.isSome_iff_exists.1 ((readReg_isSome_iff s r).2 (not_lt.1 hr))
    simp [execCfgRd, hv, answerWith, State.accepted, State.refusal, State.busyFails, State.seqFails,
      State.rangeFails, firstFailure, hr]

/-- `CFG.WR` has one check for all registers. -/
theorem execCfgWr_eq_checks (r : Nat) (v : Word) (s : State) : execCfgWr r v s =
    unlessBusy s (refuseIf (cfgWrOutOfRange r v) .range s (complete (s.writeReg r v))) := by
  unfold execCfgWr
  congr 1
  match r with
  | 0x00 | 0x01 | 0x02 => rfl
  | 0x04 | 0x06 => simp only [cfgWrOutOfRange, decide_eq_true_eq, refuseIf, State.writeReg]
  | 0x03 | 0x05 | _ + 7 => rfl

/-- What an operation does, in one equation: the first check that fails refuses it, else it takes its effect. -/
theorem exec_eq (i : Instr) (s : State) :
    exec i s = .next ((s.refusal i).elim (s.accepted i) s.refuse) := by
  cases i with
  | crcInit | crcByte _ | crcRead | rxStart _ => exact checks_eq False False s _
  | frmOpen _ k => exact checks_eq False (k > Config.kMax) s _
  | frmSeal => exact checks_eq (s.txState = .empty) False s _
  | frmSend => exact checks_eq (s.txState ≠ .sealed) False s _
  | crcRuntx n => exact checks_eq (s.txState = .empty) (n > s.txSize.toNat) s _
  | frmPut8 off _ => exact checks_eq (s.txState = .empty) (s.outsidePayload off off) s _
  | frmPut16u off _ | frmPut16s off _ => exact checks_eq (s.txState = .empty) (s.outsidePayload off (off + 1)) s _
  | frmGet off => exact checks_eq (s.txState = .empty) (off ≥ s.txSize.toNat) s _
  | crcRunrx n => exact checks_eq (s.rxState ≠ .done) (n > s.rxCount.toNat) s _
  | rxGet idx => exact checks_eq (s.rxState ≠ .done) (idx ≥ s.rxPlen.toNat) s _
  | rxRaw idx => exact checks_eq (s.rxState ≠ .done) (idx ≥ s.rxCount.toNat) s _
  | cfgRd r => exact execCfgRd_eq r s
  | cfgWr r v =>
    have hchecks := checks_eq False (cfgWrOutOfRange r v) s ((s.writeReg r v).reply 0)
    rw [Bool.decide_coe] at hchecks
    exact (execCfgWr_eq_checks r v s).trans hchecks

/-! ## What a refusal shows -/

/-- The flags of a refusal are the four below `RXCRC` (R161). -/
theorem mask_mem_of_ne_rxcrc {f : ErrFlag} (h : f ≠ .rxcrc) : f.mask ∈ [1#5, 2#5, 4#5, 8#5] := by
  cases f with
  | rxcrc => exact absurd rfl h
  | _ => decide

theorem masks_disjoint : ∀ f g : ErrFlag, g ≠ f → g.mask &&& f.mask = 0 := by
  intro f g
  cases f <;> cases g <;> decide

theorem or_mask_and_self : ∀ (e : BitVec 5) (f : ErrFlag), (e ||| f.mask) &&& f.mask ≠ 0 := by
  intro e f
  cases f <;> revert e <;> decide

/-- Raising a flag sets no other. -/
theorem or_mask_and_other {f g : ErrFlag} (hne : g ≠ f) {e : BitVec 5} (h : e &&& f.mask = 0) :
    (e ||| g.mask) &&& f.mask = 0 := by
  rw [BitVec.and_or_distrib_right, h, masks_disjoint f g hne]; rfl

/-- Raising a flag that was clear shows which flag was raised. -/
theorem mask_injective_of_clear {f g : ErrFlag} {e : BitVec 5} (hclear : e &&& f.mask = 0)
    (h : e ||| g.mask = e ||| f.mask) : g = f := by
  by_contra hne
  exact or_mask_and_self e f (h ▸ or_mask_and_other hne hclear)

section
variable {s : State} {i : Instr} {f g : ErrFlag}

/-- No check of an operation raises `RXCRC`. -/
theorem refusal_ne_rxcrc (h : s.refusal i = some f) : f ≠ .rxcrc := by
  unfold State.refusal firstFailure at h
  split_ifs at h <;> cases h <;> decide

theorem exec_of_refusal (h : s.refusal i = some f) : exec i s = .next (s.refuse f) := by
  rw [exec_eq, h, Option.elim_some]

/-- An operation that is not refused answers `err = 0`. -/
theorem accepted_answer (i : Instr) (s : State) : ∃ v, (s.accepted i).answer = some ⟨v, false⟩ := by
  cases i <;> exact ⟨_, rfl⟩

/-- Where the flag was clear, the refusal that raises it is the one the checks give. -/
theorem refusal_of_exec (hclear : s.err &&& f.mask = 0) (h : exec i s = .next (s.refuse f)) :
    s.refusal i = some f := by
  rw [exec_eq, Host.Outcome.next.injEq] at h
  cases hr : s.refusal i with
  | none =>
    obtain ⟨v, hv⟩ := accepted_answer i s
    rw [hr, Option.elim_none] at h
    rw [h, refuse_answer] at hv
    cases hv
  | some g =>
    rw [hr, Option.elim_some] at h
    rw [mask_injective_of_clear hclear (congrArg State.err h)]

theorem refusal_eq_busy (h : s.busyFails i = true) : s.refusal i = some .busy := by
  simp [State.refusal, firstFailure, h]

theorem refusal_eq_seq_iff : s.refusal i = some .seq ↔ s.busyFails i = false ∧ s.seqFails i = true := by
  unfold State.refusal firstFailure
  cases s.busyFails i <;> cases s.seqFails i <;> cases s.rangeFails i <;> decide

theorem refusal_eq_range_iff :
    s.refusal i = some .range ↔ s.busyFails i = false ∧ s.seqFails i = false ∧ s.rangeFails i = true := by
  unfold State.refusal firstFailure
  cases s.busyFails i <;> cases s.seqFails i <;> cases s.rangeFails i <;> decide

end

theorem busyFails_of_ne_cfgRd {i : Instr} (hi : ∀ r, i ≠ .cfgRd r) (s : State) :
    s.busyFails i = decide (s.rxState = .active) := by
  cases i with
  | cfgRd r => exact absurd rfl (hi r)
  | _ => rfl

/-- The operands that `CFG.WR` refuses, in numbers (R165). -/
theorem cfgWrOutOfRange_iff (r : Nat) (v : Word) : cfgWrOutOfRange r v = true ↔
    r ∉ [0x00, 0x01, 0x02, 0x04, 0x06] ∨ (r = 0x04 ∧ 2 ≤ v.toNat) ∨ (r = 0x06 ∧ 32 ≤ v.toNat) := by
  have ctrl := extractLsb'_eq_zero_iff (k := 1) (m := 31) le_rfl v
  have err := extractLsb'_eq_zero_iff (k := 5) (m := 27) le_rfl v
  match r with
  | 0x00 | 0x01 | 0x02 => simp [cfgWrOutOfRange]
  | 0x04 => simp [cfgWrOutOfRange, ← BitVec.ofNat_eq_ofNat, ctrl, Nat.lt_iff_add_one_le]
  | 0x06 => simp [cfgWrOutOfRange, ← BitVec.ofNat_eq_ofNat, err]
  | 0x03 | 0x05 | _ + 7 => simp [cfgWrOutOfRange]

/-- What it takes to settle that a list of operands and states is the list of what raises a flag. -/
theorem raised_exactly_where {listed : Prop} {i : Instr} {s : State} {f : ErrFlag}
    (h : listed ↔ s.refusal i = some f) :
    (listed → exec i s = .next (s.refuse f)) ∧
      (s.err &&& f.mask = 0 → exec i s = .next (s.refuse f) → listed) :=
  ⟨fun hl => exec_of_refusal (h.1 hl), fun hclear hx => h.2 (refusal_of_exec hclear hx)⟩

/-! ## The host's step -/

/-- Everything the host's step can do: a refusal with a flag other than `RXCRC`, or an operation's effect. -/
theorem hostWord_refused_or_accepted {w : OpWord} {s t : State} (h : hostWord w s = .next t) :
    (∃ f, f ≠ .rxcrc ∧ t = s.refuse f) ∨ ∃ i, decode w = .ok i ∧ t = s.accepted i := by
  obtain rfl | ⟨i, hi, hx⟩ := hostWord_cases h
  · exact .inl ⟨.illegal, by decide, rfl⟩
  · rw [exec_eq] at hx
    cases hr : s.refusal i with
    | none => rw [hr] at hx; cases hx; exact .inr ⟨i, hi, rfl⟩
    | some f => rw [hr] at hx; cases hx; exact .inl ⟨f, refusal_ne_rxcrc hr, rfl⟩

theorem hostWord_illegal {w : OpWord} {e : Illegal} (h : decode w = .error e) (s : State) :
    hostWord w s = .next (s.refuse .illegal) := by
  rw [hostWord, h]

/-! ## What can raise `RXCRC` (R171) -/

section
variable {s t : State} {m : BitVec 5}

theorem writeReg_err_clear (h : s.err &&& m = 0) (r : Nat) (v : Word) : (s.writeReg r v).err &&& m = 0 := by
  unfold State.writeReg
  split
  case h_5 => rw [clearErr_err, BitVec.and_assoc, BitVec.and_comm _ m, ← BitVec.and_assoc, h]; exact BitVec.zero_and
  all_goals exact h

/-- No operation sets a flag but by its refusal. -/
theorem accepted_err_clear (h : s.err &&& m = 0) (i : Instr) : (s.accepted i).err &&& m = 0 := by
  cases i with
  | cfgWr r v => exact writeReg_err_clear h r v
  | _ => exact h

theorem hostWord_rxcrc {w : OpWord} (h : hostWord w s = .next t) (hclear : s.err &&& 16 = 0) :
    t.err &&& 16 = 0 := by
  obtain ⟨f, hf, rfl⟩ | ⟨i, -, rfl⟩ := hostWord_refused_or_accepted h
  · exact or_mask_and_other hf hclear
  · exact accepted_err_clear hclear i

/-- The response passed validation, and verification is on and fails (R125, R127). -/
def State.verificationFails (s : State) : Prop :=
  s.ctrl = 1 ∧ s.responseValid = true ∧ (s.trailerPresent = false ∨ s.trailerMatches = false)

/-- `RX.COMPLETE` raises `RXCRC` exactly where verification fails, and gives the failure result there. -/
theorem finish_rxcrc_cases (s : State) :
    (s.verificationFails ∧ (finish s).err = s.err ||| ErrFlag.rxcrc.mask ∧ (finish s).rxState = .done ∧
      (finish s).rxOk = false ∧ (finish s).rxType = s.inst.failType ∧ (finish s).rxDecl = 0 ∧
      (finish s).rxPlen = 0) ∨
    (¬s.verificationFails ∧ (finish s).err = s.err) := by
  have verifying : s.rxCrcEn = true ↔ s.ctrl = 1 := beq_iff_eq
  obtain ⟨hv, h⟩ | ⟨-, hoff, h⟩ | ⟨-, -, hp, hm, h⟩ | ⟨hv, hon, -, hm, h⟩ | ⟨hv, hon, hp, h⟩ := finish_cases s
  · exact .inr ⟨fun ⟨_, hvalid, _⟩ => by simp [hv] at hvalid, by rw [h, failResponse_err]⟩
  · exact .inr ⟨fun ⟨hon, _⟩ => by simp [verifying.2 hon] at hoff, by rw [h, acceptResponse_err]⟩
  · exact .inr ⟨fun ⟨_, _, hbad⟩ => by simp [hp, hm] at hbad, by simp [h]⟩
  · exact .inl ⟨⟨verifying.1 hon, hv, .inr hm⟩, by simp [h]⟩
  · exact .inl ⟨⟨verifying.1 hon, hv, .inl hp⟩, by simp [h]⟩

/-- Where the sequencer's step raises `RXCRC` it is `RX.COMPLETE`, and verification fails. -/
theorem sequencerStep_rxcrc (hclear : s.err &&& 16 = 0) (hset : (sequencerStep s).err &&& 16 ≠ 0) :
    s.pollEnabled = false ∧ s.rxState = .active ∧ s.verificationFails ∧ sequencerStep s = finish s := by
  obtain ⟨-, hs⟩ | ⟨-, hs⟩ | ⟨hoff, ha, hs⟩ := sequencerStep_cases s
  · rw [hs] at hset; exact absurd hclear hset
  · rw [hs, poll_err] at hset; exact absurd hclear hset
  · obtain ⟨hfails, -⟩ | ⟨-, herr⟩ := finish_rxcrc_cases s
    · exact ⟨hoff, ha, hfails, hs⟩
    · rw [hs, herr] at hset; exact absurd hclear hset

/-- A step that raises `RXCRC` is the sequencer's. -/
theorem step_rxcrc (h : step s = .next t) (hclear : s.err &&& 16 = 0) (hset : t.err &&& 16 ≠ 0) :
    (s.pending = [] ∨ s.pending.head? = some .sequencer) ∧
      ∃ rest, t = sequencerStep { s with pending := rest } := by
  obtain ⟨hp, rfl⟩ | ⟨e, rest, hp, he⟩ := step_cases h
  · exact ⟨.inl hp, s.pending, rfl⟩
  · cases e with
    | host w => exact absurd (hostWord_rxcrc he hclear) hset
    | sequencer => cases he; exact ⟨.inr (by rw [hp]; rfl), rest, rfl⟩
    | rxPush bs => cases he; exact absurd hclear hset
    | txPop => cases he; exact absurd hclear hset
    | reset => cases he; exact absurd BitVec.zero_and hset

end

/-! ## The obligations of 60_exceptions.md -/

/-- Settles O6: a legal word would lie in the row of its operation. -/
theorem illegalWordsAreRefused : Obligations.IllegalWordsAreRefused := by
  intro s w rest hp hrows
  obtain ⟨e, he⟩ := decode_error_of_no_row hrows
  exact (step_scheduled hp).trans (hostWord_illegal he _)

/-- Settles O8: the `BUSY` check comes first, and only `CFG.RD` does not make it. -/
theorem busyRefusesAllButCfgRd : Obligations.BusyRefusesAllButCfgRd := by
  intro i s ha hi
  have hbusy : s.busyFails i = true := (busyFails_of_ne_cfgRd hi s).trans (decide_eq_true ha)
  exact exec_of_refusal (refusal_eq_busy hbusy)

/-- Settles O9: an accepted operation answers `err = 0`, so the step was a refusal. -/
theorem refusalSetsOneFlagOnly : Obligations.RefusalSetsOneFlagOnly := by
  intro s t w rest v hp hstep hanswer
  rw [step_scheduled hp] at hstep
  obtain ⟨f, hf, rfl⟩ | ⟨i, -, rfl⟩ := hostWord_refused_or_accepted hstep
  · rw [refuse_answer] at hanswer
    cases hanswer
    exact ⟨rfl, f.mask, mask_mem_of_ne_rxcrc hf, rfl⟩
  · obtain ⟨u, hu⟩ := accepted_answer i { s with pending := rest }
    rw [hu] at hanswer
    cases hanswer

/-- Settles O10: operation by operation, the list is the `SEQ` check after the `BUSY` check. -/
theorem seqRaisedExactlyWhereListed : Obligations.SeqRaisedExactlyWhereListed := by
  intro i s listed hlisted
  refine raised_exactly_where (f := .seq) (hlisted.trans ?_)
  rw [refusal_eq_seq_iff]
  cases i with
  | crcInit | crcByte _ | crcRead | frmOpen _ _ | rxStart _ | cfgRd _ | cfgWr _ _ => simp [State.seqFails]
  | frmSend | crcRuntx _ | frmPut8 _ _ | frmPut16u _ _ | frmPut16s _ _ | frmSeal | frmGet _
  | crcRunrx _ | rxGet _ | rxRaw _ => simp [State.busyFails, State.seqFails]

/-- Settles O11: operation by operation, the list is the `RANGE` check after the other two; `DONE` is one way not to be
`ACTIVE`. -/
theorem rangeRaisedExactlyWhereListed : Obligations.RangeRaisedExactlyWhereListed := by
  intro i s listed hlisted
  refine raised_exactly_where (f := .range) (hlisted.trans ?_)
  rw [refusal_eq_range_iff]
  have done_free : s.rxState ≠ .active ∧ s.rxState = .done ↔ s.rxState = .done :=
    and_iff_right_of_imp fun h => by simp [h]
  cases i with
  | crcInit | crcByte _ | crcRead | frmSeal | frmSend | rxStart _ => simp [State.rangeFails]
  | frmPut8 off _ => simp [State.busyFails, State.seqFails, State.rangeFails, outsidePayload_iff]
  | frmPut16u off _ | frmPut16s off _ =>
    simp [State.busyFails, State.seqFails, State.rangeFails, outsidePayload_iff (Nat.le_succ _)]
  | crcRunrx _ | rxGet _ | rxRaw _ =>
    simp only [State.busyFails, State.seqFails, State.rangeFails, decide_eq_false_iff_not, decide_eq_true_eq,
      not_not, ← and_assoc, done_free]
  | frmOpen _ _ | frmGet _ | crcRuntx _ | cfgRd _ =>
    simp [State.busyFails, State.seqFails, State.rangeFails, Config.kMax]
  | cfgWr _ _ =>
    simp only [State.busyFails, State.seqFails, State.rangeFails, cfgWrOutOfRange_iff, decide_eq_false_iff_not,
      true_and]

/-- Settles O52: only the sequencer can raise the flag (`step_rxcrc`), by an `RX.COMPLETE` (`sequencerStep_rxcrc`), and
`finish_rxcrc_cases` says when that raises it. -/
theorem rxcrcRaisedOnlyByVerification : Obligations.RxcrcRaisedOnlyByVerification := by
  intro s t hstep hclear
  refine ⟨fun hset => ?_, fun hp ha hend hc hv hbad => ?_⟩
  · obtain ⟨hagent, rest, rfl⟩ := step_rxcrc hstep hclear hset
    obtain ⟨hoff, ha, hfails, hs⟩ :=
      sequencerStep_rxcrc (s := { s with pending := rest }) hclear hset
    have hend := ((pollEnabled_false_iff _).1 hoff).resolve_left (not_not_intro ha)
    obtain ⟨-, -, hresult⟩ | ⟨hpasses, -⟩ := finish_rxcrc_cases { s with pending := rest }
    · obtain ⟨hc, hv, hbad⟩ := hfails
      rw [hs]
      exact ⟨hagent, ha, hend, hc, hv, hbad, hresult⟩
    · exact absurd hfails hpasses
  · obtain ⟨rest, hp⟩ := List.head?_eq_some_iff.1 hp
    rw [step_completes hp ha hend, Host.Outcome.next.injEq] at hstep
    subst hstep
    obtain ⟨-, herr, -⟩ | ⟨hpasses, -⟩ := finish_rxcrc_cases { s with pending := rest }
    · rw [herr]
      exact or_mask_and_self s.err .rxcrc
    · exact absurd ⟨hc, hv, hbad⟩ hpasses

end Sys2Proof.Machine
end

section
/-! PROOFS. Every step of every agent (00_scope.md section 5, 10_state.md sections 3 to 6, 70_reset_and_hazards.md). What a
step can do is said once (`step_effect`), from what each event can do (`takeEvent_effect`); the statements about one step
are read off it, effect by effect. -/

namespace Sys2Proof.Machine

/-! ## What a step can do -/

/-- Everything an event can make of the state; `takeEvent_effect` ties it to `takeEvent`. -/
inductive Effect (s : State) : Event → State → Prop
  /-- A word is refused; no check raises `RXCRC` (R161). -/
  | refused {w : OpWord} {f : ErrFlag} (hf : f ≠ .rxcrc) : Effect s (.host w) (s.refuse f)
  /-- A word's operation passes its checks and takes its effect. -/
  | accepted {w : OpWord} {i : Instr} (hi : decode w = .ok i) (hr : s.refusal i = none) :
    Effect s (.host w) (s.accepted i)
  /-- Outside `ACTIVE` the sequencer's step is passed over (log 3). -/
  | passed (ha : s.rxState ≠ .active) : Effect s .sequencer s
  /-- `RX.POLL` (R124). -/
  | polled (hp : s.pollEnabled = true) : Effect s .sequencer (poll s)
  /-- `RX.COMPLETE` (R125). -/
  | completed (ha : s.rxState = .active) (hp : s.pollEnabled = false) : Effect s .sequencer (finish s)
  /-- `ENV.RXPUSH` (R24). -/
  | pushed (bs : List Byte) : Effect s (.rxPush bs) (rxPush bs s)
  /-- `ENV.TXPOP` (R24). -/
  | popped : Effect s .txPop (txPop s)
  /-- The reset event (R180). -/
  | reset : Effect s .reset (resetEvent s)

theorem hostWord_effect {w : OpWord} {s t : State} (h : hostWord w s = .next t) : Effect s (.host w) t := by
  obtain rfl | ⟨i, hi, hx⟩ := hostWord_cases h
  · exact .refused (by decide)
  · rw [exec_eq] at hx
    cases hr : s.refusal i with
    | none => rw [hr] at hx; cases hx; exact .accepted hi hr
    | some f => rw [hr] at hx; cases hx; exact .refused (refusal_ne_rxcrc hr)

theorem sequencerStep_effect (s : State) : Effect s .sequencer (sequencerStep s) := by
  obtain ⟨ha, h⟩ | ⟨hp, h⟩ | ⟨hp, ha, h⟩ := sequencerStep_cases s
  · rw [h]; exact .passed ha
  · rw [h]; exact .polled hp
  · rw [h]; exact .completed ha hp

theorem takeEvent_effect {e : Event} {s t : State} (h : takeEvent e s = .next t) : Effect s e t := by
  cases e with
  | host w => exact hostWord_effect h
  | sequencer => cases h; exact sequencerStep_effect s
  | rxPush bs => cases h; exact .pushed bs
  | txPop => cases h; exact .popped
  | reset => cases h; exact .reset

/-- `e` is the next step: the first of the schedule, or the sequencer's where nothing is scheduled (log 4). -/
def State.takesNext (s : State) (e : Event) : Prop :=
  s.pending.head? = some e ∨ s.pending = [] ∧ e = .sequencer

/-- Everything a step can do: an effect of the next event, on the state less that step of the schedule. -/
theorem step_effect {s t : State} (h : step s = .next t) :
    ∃ e, s.takesNext e ∧ Effect { s with pending := s.pending.tail } e t := by
  obtain ⟨hp, rfl⟩ | ⟨e, rest, hp, he⟩ := step_cases h
  · refine ⟨.sequencer, .inr ⟨hp, rfl⟩, ?_⟩
    have hs : { s with pending := s.pending.tail } = s := by rw [hp, List.tail_nil, ← hp]
    rw [hs]
    exact sequencerStep_effect s
  · refine ⟨e, .inl (by rw [hp]; rfl), ?_⟩
    rw [hp]
    exact takeEvent_effect he

/-- An event other than the sequencer's is next only by the schedule. -/
theorem head?_of_takesNext {s : State} {e : Event} (h : s.takesNext e) (he : e ≠ .sequencer) :
    s.pending.head? = some e :=
  h.resolve_right fun ⟨_, hs⟩ => he hs

theorem takesNext_sequencer_iff (s : State) :
    s.takesNext .sequencer ↔ s.pending = [] ∨ s.pending.head? = some .sequencer := by
  rw [State.takesNext, or_comm, and_iff_left rfl]

/-! ## What an accepted operation leaves as it is -/

section
variable (s : State) (i : Instr) (r : Nat) (v : Word)

/-- All that a `CFG.WR` can touch (R151). -/
theorem writeReg_frame : s.writeReg r v = { s with
    crcPoly := (s.writeReg r v).crcPoly, crcInit := (s.writeReg r v).crcInit
    crcXorout := (s.writeReg r v).crcXorout, ctrl := (s.writeReg r v).ctrl, err := (s.writeReg r v).err
    txState := (s.writeReg r v).txState } := by
  unfold State.writeReg
  split <;> rfl

@[simp] theorem writeReg_inst : (s.writeReg r v).inst = s.inst := (congrArg State.inst (writeReg_frame s r v) :)

@[simp] theorem writeReg_rxState : (s.writeReg r v).rxState = s.rxState :=
  (congrArg State.rxState (writeReg_frame s r v) :)

@[simp] theorem writeReg_pending : (s.writeReg r v).pending = s.pending :=
  (congrArg State.pending (writeReg_frame s r v) :)

/-- A `CFG.WR` breaks a seal and does nothing else to `TX_STATE` (R12 to R14). -/
theorem writeReg_txState :
    (s.writeReg r v).txState = s.txState ∨ (s.writeReg r v).txState = .opened := by
  have dropped : s.dropSeal.txState = s.txState ∨ s.dropSeal.txState = .opened := by
    rw [dropSeal_txState]; split_ifs <;> simp
  unfold State.writeReg
  split
  case h_1 | h_2 | h_3 => exact dropped
  all_goals exact .inl rfl

/-- A `CFG.WR` of any register but 0x06 leaves `ERR` alone. -/
theorem writeReg_err (hr : r ≠ 0x06) : (s.writeReg r v).err = s.err := by
  unfold State.writeReg
  split
  case h_5 => exact absurd rfl hr
  all_goals rfl

@[simp] theorem accepted_inst : (s.accepted i).inst = s.inst := by
  cases i with
  | cfgWr r v => exact writeReg_inst s r v
  | _ => rfl

@[simp] theorem accepted_pending : (s.accepted i).pending = s.pending := by
  cases i with
  | cfgWr r v => exact writeReg_pending s r v
  | _ => rfl

/-- No accepted operation touches `ERR`, `CFG.WR 0x06` apart. -/
theorem accepted_err {i : Instr} (hi : ∀ u, i ≠ .cfgWr 0x06 u) : (s.accepted i).err = s.err := by
  cases i with
  | cfgWr r v => exact writeReg_err s r v fun hr => hi v (by rw [hr])
  | _ => rfl

/-- No accepted operation ends in `EMPTY` but from `EMPTY`. -/
theorem accepted_txState_ne_empty {s : State} (h : s.txState ≠ .empty) : (s.accepted i).txState ≠ .empty := by
  cases i with
  | frmOpen _ _ | frmPut8 _ _ | frmPut16u _ _ | frmPut16s _ _ | frmSeal => exact nofun
  | cfgWr r v =>
    obtain hsame | hopen := writeReg_txState s r v
    · exact fun he => h (hsame.symm.trans he)
    · exact fun he => nomatch hopen.symm.trans he
  | _ => exact h

/-- An accepted operation moves `RX_STATE` only to `ACTIVE`. -/
theorem accepted_rxState : (s.accepted i).rxState = s.rxState ∨ (s.accepted i).rxState = .active := by
  cases i with
  | rxStart e => exact .inr rfl
  | cfgWr r v => exact .inl (writeReg_rxState s r v)
  | _ => exact .inl rfl

/-- An operation whose checks all hold. -/
theorem refusal_eq_none_iff {s : State} {i : Instr} : s.refusal i = none ↔
    s.busyFails i = false ∧ s.seqFails i = false ∧ s.rangeFails i = false := by
  unfold State.refusal firstFailure
  cases s.busyFails i <;> cases s.seqFails i <;> cases s.rangeFails i <;> decide

/-- While a reassembly runs the one operation that passes its checks is `CFG.RD` (R163). -/
theorem eq_cfgRd_of_active {s : State} {i : Instr} (ha : s.rxState = .active) (hr : s.refusal i = none) :
    ∃ r, i = .cfgRd r := by
  by_contra hi
  obtain ⟨hbusy, -, -⟩ := refusal_eq_none_iff.1 hr
  rw [busyFails_of_ne_cfgRd (fun r h => hi ⟨r, h⟩), decide_eq_false_iff_not] at hbusy
  exact hbusy ha

/-! ## What `RX.COMPLETE` leaves as it is -/

/-- All that `RX.COMPLETE` can touch; it ends the reassembly, whatever the result (R125). -/
theorem finish_frame : finish s = { s with
    crcAcc := (finish s).crcAcc, err := (finish s).err, rxState := .done, rxOk := (finish s).rxOk
    rxType := (finish s).rxType, rxDecl := (finish s).rxDecl, rxPlen := (finish s).rxPlen } := by
  obtain ⟨-, h⟩ | ⟨-, -, h⟩ | ⟨-, -, -, -, h⟩ | ⟨-, -, -, -, h⟩ | ⟨-, -, -, h⟩ := finish_cases s <;> rw [h] <;> rfl

@[simp] theorem finish_inst : (finish s).inst = s.inst := (congrArg State.inst (finish_frame s) :)

@[simp] theorem finish_pending : (finish s).pending = s.pending := (congrArg State.pending (finish_frame s) :)

@[simp] theorem finish_txState : (finish s).txState = s.txState := (congrArg State.txState (finish_frame s) :)

@[simp] theorem finish_rxState : (finish s).rxState = .done := (congrArg State.rxState (finish_frame s) :)

/-- `RX.COMPLETE` clears no flag. -/
theorem finish_err : (finish s).err = s.err ∨ (finish s).err = s.err ||| ErrFlag.rxcrc.mask := by
  obtain ⟨-, h, -⟩ | ⟨-, h⟩ := finish_rxcrc_cases s
  · exact .inr h
  · exact .inl h

end

/-! ## The obligations about one step -/

/-- Settles O5. -/
theorem stepRunsDecodedOperation : Obligations.StepRunsDecodedOperation := by
  intro s w rest i hp hi
  rw [step_scheduled hp, takeEvent, hostWord, hi]

theorem takeEvent_goes_on (e : Event) (s : State) : ∃ t, takeEvent e s = .next t := by
  cases e with
  | host w =>
    cases hw : decode w with
    | ok i => exact ⟨_, by rw [takeEvent, hostWord, hw]; exact exec_eq i s⟩
    | error e => exact ⟨_, hostWord_illegal hw s⟩
  | _ => exact ⟨_, rfl⟩

/-- Settles O7: `exec_eq` for the operations, `takeEvent_goes_on` for the events. -/
theorem everyStepGoesOn : Obligations.EveryStepGoesOn := by
  refine ⟨fun i s => ⟨_, exec_eq i s⟩, fun s => ?_⟩
  cases hp : s.pending with
  | nil => exact ⟨_, step_unscheduled hp⟩
  | cons e rest => rw [step_scheduled hp]; exact takeEvent_goes_on e _

/-- A flag that was set stays set where another is raised. -/
theorem and_or_self (e m : BitVec 5) : e &&& (e ||| m) = e := by
  ext j hj
  simpa using Or.inl

/-- Settles O12: a refusal and a failed verification raise a flag, only `CFG.WR 0x06` and reset clear one. -/
theorem errFlagsAreSticky : Obligations.ErrFlagsAreSticky := by
  intro s t hstep hreset hclear
  obtain ⟨e, he, heffect⟩ := step_effect hstep
  cases heffect with
  | refused => exact and_or_self _ _
  | accepted hi =>
    have herr := accepted_err { s with pending := s.pending.tail }
      fun u hu => hclear _ u (head?_of_takesNext he nofun) (hu ▸ hi)
    rw [herr, BitVec.and_self]
  | completed =>
    obtain herr | herr := finish_err { s with pending := s.pending.tail }
    · rw [herr, BitVec.and_self]
    · rw [herr, and_or_self]
  | reset => exact absurd (head?_of_takesNext he nofun) hreset
  | passed | polled | pushed | popped => exact BitVec.and_self

/-- Settles O13: an answer with `err = 0` is no refusal's. -/
theorem acceptedOperationsLeaveErr : Obligations.AcceptedOperationsLeaveErr := by
  intro i s t v hi hexec hanswer
  obtain ⟨f, rfl⟩ | rfl := exec_cases hexec
  · rw [refuse_answer] at hanswer
    cases hanswer
  · exact accepted_err s hi

/-- An operation's own checks raise `BUSY`, `SEQ` or `RANGE`. -/
theorem refusal_mask_mem {s : State} {i : Instr} {f : ErrFlag} (h : s.refusal i = some f) :
    f.mask ∈ [2#5, 4#5, 8#5] := by
  unfold State.refusal firstFailure at h
  split_ifs at h <;> cases h <;> decide

/-- Settles O14: a reading operation's effect is its answer. -/
theorem readsHaveNoSideEffects : Obligations.ReadsHaveNoSideEffects := by
  intro i s t hi hexec
  rw [exec_eq, Host.Outcome.next.injEq] at hexec
  subst hexec
  cases hr : s.refusal i with
  | none => obtain rfl | ⟨_, rfl⟩ | ⟨_, rfl⟩ | ⟨_, rfl⟩ | ⟨_, rfl⟩ := hi <;> exact .inl rfl
  | some f => exact .inr ⟨f.mask, refusal_mask_mem hr, rfl⟩

/-- Settles O15: every word is refused or is a `CFG.RD`, whose effect is its answer. -/
theorem hostCannotDisturbActiveReassembly : Obligations.HostCannotDisturbActiveReassembly := by
  intro s t w rest ha hp hstep
  rw [step_scheduled hp] at hstep
  cases takeEvent_effect hstep with
  | refused => rfl
  | accepted _ hr =>
    obtain ⟨r, rfl⟩ := eq_cfgRd_of_active ha hr
    rfl

/-- Settles O21. -/
theorem parametersNeverChange : Obligations.ParametersNeverChange := by
  intro s t hstep
  obtain ⟨e, -, heffect⟩ := step_effect hstep
  cases heffect with
  | accepted => exact accepted_inst _ _
  | completed => exact finish_inst _
  | refused | passed | polled | pushed | popped | reset => rfl

/-- Settles O22: an accepted operation opens a frame or begins a reassembly, `RX.COMPLETE` ends in `DONE`. -/
theorem emptyAndIdleAreNeverReentered : Obligations.EmptyAndIdleAreNeverReentered := by
  intro s t hstep hreset
  obtain ⟨e, he, heffect⟩ := step_effect hstep
  cases heffect with
  | @accepted _ i =>
    refine ⟨fun htx => accepted_txState_ne_empty i (show State.txState { s with pending := _ } ≠ _ from htx),
      fun hrx => ?_⟩
    obtain h | h := accepted_rxState { s with pending := s.pending.tail } i
    · rw [h]; exact hrx
    · rw [h]; exact nofun
  | completed =>
    rw [finish_txState, finish_rxState]
    exact ⟨id, fun _ => nofun⟩
  | reset => exact absurd (head?_of_takesNext he nofun) hreset
  | refused | passed | polled | pushed | popped => exact ⟨id, id⟩

/-- Settles O23: of all effects only `RX.COMPLETE` and reset leave `ACTIVE`. -/
theorem activeLeftOnlyByCompletionOrReset : Obligations.ActiveLeftOnlyByCompletionOrReset := by
  intro s t hstep ha hleft
  obtain ⟨e, he, heffect⟩ := step_effect hstep
  cases heffect with
  | @accepted _ i =>
    obtain h | h := accepted_rxState { s with pending := s.pending.tail } i
    · exact absurd (h.trans ha) hleft
    · exact absurd h hleft
  | completed _ hp =>
    have hcomplete : s.completeEnabled = true := by
      rw [State.completeEnabled, show s.pollEnabled = false from hp, ha]; rfl
    exact .inl ⟨finish_rxState _, hcomplete, (takesNext_sequencer_iff s).1 he⟩
  | reset => exact .inr ⟨rfl, head?_of_takesNext he nofun⟩
  | refused | passed | polled | pushed | popped => exact absurd ha hleft

/-! ## The end of a run (R182) -/

/-- Outside `ACTIVE` the sequencer has no step. -/
theorem sequencerStep_of_not_active {s : State} (ha : s.rxState ≠ .active) : sequencerStep s = s := by
  obtain ⟨-, h⟩ | ⟨hp, -⟩ | ⟨-, h, -⟩ := sequencerStep_cases s
  · exact h
  · exact absurd (pollEnabled_active hp) ha
  · exact absurd h ha

/-- Settles O24: in the model's choice the passed-over step leaves the state as it is. -/
theorem nothingEnabledChangesNothing : Obligations.NothingEnabledChangesNothing := by
  refine ⟨fun s ha hp => ?_, fun s rest ha hp => ?_, fun s rest hq hp => ?_⟩
  · rw [step_unscheduled hp, sequencerStep_of_not_active ha]
  · rw [step_sequencer hp, sequencerStep_of_not_active (s := { s with pending := rest }) ha]
  · rw [step_scheduled hp, takeEvent, txPop, hq, List.tail_nil, ← hq]

theorem isHost_eq_false_iff (e : Event) : e.isHost = false ↔ ∀ w, e ≠ .host w := by
  cases e <;> simp [Event.isHost]

/-- Quiescence (R182) without the host's test. -/
theorem quiescent_iff (s : State) : s.quiescent ↔ s.rxState ≠ .active ∧ ∀ w, Event.host w ∉ s.pending := by
  simp only [State.quiescent, isHost_eq_false_iff]
  exact and_congr_right fun _ => ⟨fun h w hw => h _ hw w rfl, fun h e he w hw => h w (hw ▸ he)⟩

theorem not_enabled_of_not_active {s : State} (ha : s.rxState ≠ .active) :
    s.pollEnabled = false ∧ s.completeEnabled = false := by
  refine ⟨(pollEnabled_false_iff s).2 (.inl ha), ?_⟩
  simp [State.completeEnabled, ha]

/-- While `ACTIVE`, `RX.COMPLETE` is enabled exactly where `RX.POLL` is not (R125). -/
theorem completeEnabled_of_active {s : State} (ha : s.rxState = .active) : s.completeEnabled = !s.pollEnabled := by
  simp [State.completeEnabled, ha]

/-- A step from a quiescent state moves the queues and the schedule, unless it is a reset, and hands over no new word. -/
theorem step_of_quiescent {s t : State} (hq : s.quiescent) (hstep : step s = .next t) :
    t.quiescent ∧ t.pending = s.pending.tail ∧
      (Event.reset ∉ s.pending → t = { s with pending := t.pending, txq := t.txq, rxq := t.rxq }) := by
  obtain ⟨ha, hpending⟩ := hq
  have htail : ∀ e ∈ s.pending.tail, e.isHost = false := fun e he => hpending e (List.mem_of_mem_tail he)
  obtain ⟨e, he, heffect⟩ := step_effect hstep
  cases heffect with
  | refused | accepted => exact nomatch hpending _ (List.mem_of_head? (head?_of_takesNext he nofun))
  | polled hp => exact absurd (pollEnabled_active hp) ha
  | completed h => exact absurd h ha
  | passed | pushed | popped => exact ⟨⟨ha, htail⟩, rfl, fun _ => rfl⟩
  | reset =>
    exact ⟨⟨nofun, htail⟩, rfl, fun hno => absurd (List.mem_of_head? (head?_of_takesNext he nofun)) hno⟩

/-- The first of the steps of a run that ends in a next state. -/
theorem run_succ_cases {n : Nat} {s t : State} (h : Host.Core.run Sys2Proof.core (n + 1) s = .next t) :
    ∃ u, step s = .next u ∧ Host.Core.run Sys2Proof.core n u = .next t := by
  obtain ⟨u, hu⟩ := everyStepGoesOn.2 s
  exact ⟨u, hu, (run_succ Sys2Proof.core hu).symm.trans h⟩

/-- What a state has and every step keeps, every state of a run from it has. -/
theorem run_keeps {P : State → Prop} (hkeep : ∀ s t, P s → step s = .next t → P t) {n : Nat} {s t : State}
    (hs : P s) (hrun : Host.Core.run Sys2Proof.core n s = .next t) : P t := by
  induction n generalizing s with
  | zero => cases hrun; exact hs
  | succ n ih =>
    obtain ⟨u, hstep, hrest⟩ := run_succ_cases hrun
    exact ih (hkeep s u hs hstep) hrest

/-- What `step_of_quiescent` says of a step, said of a run. -/
theorem run_of_quiescent {n : Nat} {s t : State} (hq : s.quiescent)
    (hrun : Host.Core.run Sys2Proof.core n s = .next t) :
    t.quiescent ∧ (Event.reset ∉ s.pending → t = { s with pending := t.pending, txq := t.txq, rxq := t.rxq }) := by
  induction n generalizing s with
  | zero => cases hrun; exact ⟨hq, fun _ => rfl⟩
  | succ n ih =>
    obtain ⟨u, hstep, hrest⟩ := run_succ_cases hrun
    obtain ⟨hqu, hpending, hframe⟩ := step_of_quiescent hq hstep
    obtain ⟨hqt, hframe'⟩ := ih hqu hrest
    refine ⟨hqt, fun hno => ?_⟩
    have hno' : Event.reset ∉ u.pending := fun h => hno (List.mem_of_mem_tail (hpending ▸ h))
    rw [hframe' hno', hframe hno]

/-- Settles O25: `run_of_quiescent` for the run, the enabling conditions for the rest. -/
theorem quiescenceEndsARun : Obligations.QuiescenceEndsARun :=
  ⟨quiescent_iff, fun _ ha _ => ⟨completeEnabled_of_active ha, fun hq => hq.1 ha⟩,
    fun _ hq => not_enabled_of_not_active hq.1, fun _ _ _ hq hrun => run_of_quiescent hq hrun⟩

end Sys2Proof.Machine
end

section
/-! PROOFS. 10_state.md section 8: the invariants of R35 hold at reset and every step keeps them. The invariant is taken
apart into what it says of the framer and of the reassembler (`inv_iff`), each kept by everything that leaves its own
registers alone (`TxInv.of_txPart`, `RxInv.of_rxPart`); then every effect has at most one half to keep. -/

namespace Sys2Proof.Machine

/-! ## The two halves of the invariant -/

/-- What the invariant says of the framer; `inv_iff` ties it to `State.Inv`. -/
structure State.TxInv (s : State) : Prop where
  wf : s.txbuf.wf = true
  below : s.txbuf.below Config.txbufSize = true
  emptyIff : s.txState = .empty ↔ s.txSize = 0
  sizeLegal : s.txState ≠ .empty → s.txSize.toNat ∈ [14, 16, 18, 20, 22]
  markerPlaced : s.txState ≠ .empty → s.txbuf.read 0 = s.inst.cmdStartMark
  frameWritten : s.txState ≠ .empty → ∀ a, a < s.txSize.toNat → a ∈ s.txWritten
  sealHolds : s.txState = .sealed → s.trailerValid

/-- What the invariant says of the reassembler; `inv_iff` ties it to `State.Inv`. -/
structure State.RxInv (s : State) : Prop where
  wf : s.rxbuf.wf = true
  below : s.rxbuf.below Config.rxbufSize = true
  countFits : s.rxCount.toNat ≤ Config.rxbufSize
  iterFits : s.rxIter.toNat ≤ s.inst.retryBudget.toNat
  resultHolds : s.rxState = .done → s.rxOk = true →
    8 ≤ s.rxCount.toNat ∧ s.rxbuf.read 0 = s.inst.rspStartMark ∧ s.rxType = s.rxbuf.read 1 ∧
    s.rxDecl.toNat = s.rxbuf.memRead 2 2 ∧ s.rxPlen.toNat = min s.rxDecl.toNat (s.rxCount.toNat - 8)
  failureShown : s.rxOk = false → s.rxType = s.inst.failType ∧ s.rxDecl = 0 ∧ s.rxPlen = 0
  okOnlyDone : s.rxOk = true → s.rxState = .done

theorem inv_iff (s : State) : s.Inv ↔ s.inst.legal = true ∧ s.TxInv ∧ s.RxInv := by
  constructor
  · intro h
    exact ⟨h.paramsLegal,
      ⟨h.txbufWf, h.txbufBelow, h.emptyIff, h.sizeLegal, h.markerPlaced, h.frameWritten, h.sealHolds⟩,
      ⟨h.rxbufWf, h.rxbufBelow, h.countFits, h.iterFits, h.resultHolds, h.failureShown, h.okOnlyDone⟩⟩
  · rintro ⟨hlegal, htx, hrx⟩
    exact {
      paramsLegal := hlegal
      txbufWf := htx.wf
      txbufBelow := htx.below
      rxbufWf := hrx.wf
      rxbufBelow := hrx.below
      emptyIff := htx.emptyIff
      sizeLegal := htx.sizeLegal
      markerPlaced := htx.markerPlaced
      frameWritten := htx.frameWritten
      sealHolds := htx.sealHolds
      countFits := hrx.countFits
      iterFits := hrx.iterFits
      resultHolds := hrx.resultHolds
      failureShown := hrx.failureShown
      okOnlyDone := hrx.okOnlyDone }

/-- The registers on which the framer's half depends. -/
def State.txPart (s : State) :
    Config.Params × TxState × BitVec 5 × Memory × List Nat × Word × Word × Word :=
  (s.inst, s.txState, s.txSize, s.txbuf, s.txWritten, s.crcPoly, s.crcInit, s.crcXorout)

/-- The registers on which the reassembler's half depends. -/
def State.rxPart (s : State) :
    Config.Params × RxState × Bool × BitVec 17 × Word × Byte × BitVec 16 × BitVec 16 × Memory :=
  (s.inst, s.rxState, s.rxOk, s.rxCount, s.rxIter, s.rxType, s.rxDecl, s.rxPlen, s.rxbuf)

theorem State.TxInv.of_txPart {s t : State} (h : s.TxInv) (heq : t.txPart = s.txPart) : t.TxInv := by
  cases s
  cases t
  simp only [State.txPart, Prod.mk.injEq] at heq
  obtain ⟨rfl, rfl, rfl, rfl, rfl, rfl, rfl, rfl⟩ := heq
  exact ⟨h.wf, h.below, h.emptyIff, h.sizeLegal, h.markerPlaced, h.frameWritten, h.sealHolds⟩

theorem State.RxInv.of_rxPart {s t : State} (h : s.RxInv) (heq : t.rxPart = s.rxPart) : t.RxInv := by
  cases s
  cases t
  simp only [State.rxPart, Prod.mk.injEq] at heq
  obtain ⟨rfl, rfl, rfl, rfl, rfl, rfl, rfl, rfl, rfl⟩ := heq
  exact ⟨h.wf, h.below, h.countFits, h.iterFits, h.resultHolds, h.failureShown, h.okOnlyDone⟩

/-! ## The framer's half -/

theorem txSize_le {s : State} (h : s.TxInv) (ht : s.txState ≠ .empty) :
    14 ≤ s.txSize.toNat ∧ s.txSize.toNat ≤ 22 := by
  have := h.sizeLegal ht
  simp only [List.mem_cons, List.not_mem_nil, or_false] at this
  omega

/-- Where a frame stands, its size shows that `TX_STATE` is not `EMPTY`. -/
theorem State.TxInv.of_frame {s : State} (ht : s.txState ≠ .empty) (wf : s.txbuf.wf = true)
    (below : s.txbuf.below Config.txbufSize = true) (size : s.txSize.toNat ∈ [14, 16, 18, 20, 22])
    (marker : s.txbuf.read 0 = s.inst.cmdStartMark) (written : ∀ a, a < s.txSize.toNat → a ∈ s.txWritten)
    (sealHolds : s.txState = .sealed → s.trailerValid) : s.TxInv where
  wf := wf
  below := below
  emptyIff := iff_of_false ht fun h0 => by rw [h0] at size; exact absurd size (by decide)
  sizeLegal := fun _ => size
  markerPlaced := fun _ => marker
  frameWritten := fun _ => written
  sealHolds := sealHolds

theorem txInv_openFrame {s : State} (h : s.TxInv) (opc : Byte) {k : Nat} (hk : k ≤ 4) :
    (s.openFrame opc k).TxInv := by
  have size := openFrame_txSize_toNat s opc hk
  refine .of_frame nofun (writeBytes_wf h.wf _ _) (writeBytes_below h.below ?_) ?_ ?_ (fun a ha => ?_) nofun
  · rw [openedFrame_length, Config.txbufSize]; omega
  · rw [size]; interval_cases k <;> decide
  · exact openFrame_read_inside s opc (by omega)
  · rw [openFrame_txWritten, mem_recordWrites, openedFrame_length]
    omega

/-- A write into the payload area reaches neither the marker nor the end of the buffer. -/
theorem txInv_putPayload {s : State} (h : s.TxInv) (ht : s.txState ≠ .empty) {off n : Nat} (v : Nat)
    (hlo : 2 ≤ off) (hhi : off + n + 4 ≤ s.txSize.toNat) : (s.putPayload off n v).TxInv := by
  have hsize := txSize_le h ht
  refine .of_frame nofun (memWrite_wf h.wf _ _ _) (memWrite_below h.below ?_) (h.sizeLegal ht) ?_ (fun a ha => ?_) nofun
  · rw [Config.txbufSize]; omega
  · exact (read_memWrite_outside (by omega)).trans (h.markerPlaced ht)
  · exact mem_recordWrites.2 (.inl (h.frameWritten ht a ha))

/-- The bytes the checksum covers lie before the trailer, so sealing leaves them. -/
theorem sealFrame_coveredBytes (s : State) : s.sealFrame.coveredBytes = s.coveredBytes :=
  readBytes_congr fun _ _ hx => read_memWrite_outside (.inl (by rwa [Nat.zero_add] at hx))

/-- What `FRM.SEAL` stamps is the checksum of the bytes before it (R105). -/
theorem sealFrame_trailerValid (s : State) : s.sealFrame.trailerValid := by
  have stored := memRead_memWrite s.txbuf s.trailerAt Config.crcLen (s.checksum s.coveredBytes).toNat
  rw [Nat.mod_eq_of_lt (show _ < 256 ^ Config.crcLen from (s.checksum s.coveredBytes).isLt)] at stored
  rw [State.trailerValid, sealFrame_coveredBytes]
  exact stored

theorem txInv_sealFrame {s : State} (h : s.TxInv) (ht : s.txState ≠ .empty) : s.sealFrame.TxInv := by
  have hsize := txSize_le h ht
  have htrailer : s.trailerAt + Config.crcLen = s.txSize.toNat := by rw [State.trailerAt, Config.crcLen]; omega
  refine .of_frame nofun (memWrite_wf h.wf _ _ _) (memWrite_below h.below ?_) (h.sizeLegal ht) ?_ (fun a ha => ?_)
    fun _ => sealFrame_trailerValid s
  · rw [htrailer, Config.txbufSize]; omega
  · refine (read_memWrite_outside ?_).trans (h.markerPlaced ht)
    rw [State.trailerAt, Config.crcLen]; omega
  · exact mem_recordWrites.2 (.inl (h.frameWritten ht a ha))

/-- With the seal broken the CRC registers may change. -/
theorem txInv_dropSeal {s : State} (h : s.TxInv) (poly init xorout : Word) :
    ({ s.dropSeal with crcPoly := poly, crcInit := init, crcXorout := xorout } : State).TxInv := by
  have hempty : s.dropSeal.txState = .empty ↔ s.txState = .empty := by
    rw [dropSeal_txState]; split_ifs with hs <;> simp [hs]
  have hsealed : s.dropSeal.txState ≠ .sealed := by rw [dropSeal_txState]; split_ifs with hs <;> simp [hs]
  exact {
    wf := h.wf
    below := h.below
    emptyIff := hempty.trans h.emptyIff
    sizeLegal := fun ht => h.sizeLegal (hempty.not.1 ht)
    markerPlaced := fun ht => h.markerPlaced (hempty.not.1 ht)
    frameWritten := fun ht => h.frameWritten (hempty.not.1 ht)
    sealHolds := fun ht => absurd ht hsealed }

theorem txInv_writeReg {s : State} (h : s.TxInv) (r : Nat) (v : Word) : (s.writeReg r v).TxInv := by
  unfold State.writeReg
  split
  case h_1 | h_2 | h_3 => exact (txInv_dropSeal h _ _ _).of_txPart rfl
  all_goals exact h.of_txPart rfl

/-- A field write that passes its checks goes to a frame, and into its payload area. -/
theorem inPayload_of_not_outside {s : State} {off n : Nat} (h : ¬s.outsidePayload off (off + n)) :
    2 ≤ off ∧ off + (n + 1) + 4 ≤ s.txSize.toNat := by
  rw [outsidePayload_iff (Nat.le_add_right off n)] at h
  omega

theorem frmPut8_checks {s : State} {off : Nat} {v : Byte} (hr : s.refusal (.frmPut8 off v) = none) :
    s.txState ≠ .empty ∧ 2 ≤ off ∧ off + 1 + 4 ≤ s.txSize.toNat := by
  obtain ⟨-, hseq, hrange⟩ := refusal_eq_none_iff.1 hr
  exact ⟨of_decide_eq_false hseq, inPayload_of_not_outside (n := 0) (of_decide_eq_false hrange)⟩

theorem frmPut16u_checks {s : State} {off : Nat} {v : BitVec 16} (hr : s.refusal (.frmPut16u off v) = none) :
    s.txState ≠ .empty ∧ 2 ≤ off ∧ off + 2 + 4 ≤ s.txSize.toNat := by
  obtain ⟨-, hseq, hrange⟩ := refusal_eq_none_iff.1 hr
  exact ⟨of_decide_eq_false hseq, inPayload_of_not_outside (n := 1) (of_decide_eq_false hrange)⟩

theorem frmPut16s_checks {s : State} {off : Nat} {v : Int} (hr : s.refusal (.frmPut16s off v) = none) :
    s.txState ≠ .empty ∧ 2 ≤ off ∧ off + 2 + 4 ≤ s.txSize.toNat :=
  frmPut16u_checks (v := BitVec.ofInt 16 v) hr

theorem frmOpen_checks {s : State} {opc : Byte} {k : Nat} (hr : s.refusal (.frmOpen opc k) = none) : k ≤ 4 := by
  obtain ⟨-, -, hrange⟩ := refusal_eq_none_iff.1 hr
  exact not_lt.1 (of_decide_eq_false hrange)

theorem frmSeal_checks {s : State} (hr : s.refusal .frmSeal = none) : s.txState ≠ .empty := by
  obtain ⟨-, hseq, -⟩ := refusal_eq_none_iff.1 hr
  exact of_decide_eq_false hseq

theorem txInv_accepted {s : State} {i : Instr} (h : s.TxInv) (hr : s.refusal i = none) : (s.accepted i).TxInv := by
  cases i with
  | frmOpen opc k => exact (txInv_openFrame h opc (frmOpen_checks hr)).of_txPart rfl
  | frmPut8 off v =>
    obtain ⟨ht, hlo, hhi⟩ := frmPut8_checks hr
    exact (txInv_putPayload h ht _ hlo hhi).of_txPart rfl
  | frmPut16u off v =>
    obtain ⟨ht, hlo, hhi⟩ := frmPut16u_checks hr
    exact (txInv_putPayload h ht _ hlo hhi).of_txPart rfl
  | frmPut16s off v =>
    obtain ⟨ht, hlo, hhi⟩ := frmPut16s_checks hr
    exact (txInv_putPayload h ht _ hlo hhi).of_txPart rfl
  | frmSeal => exact (txInv_sealFrame h (frmSeal_checks hr)).of_txPart rfl
  | cfgWr r v => exact (txInv_writeReg h r v).of_txPart rfl
  | _ => exact h.of_txPart rfl

theorem finish_txPart (s : State) : (finish s).txPart = s.txPart := (congrArg State.txPart (finish_frame s) :)

/-! ## The reassembler's half -/

theorem writeReg_rxPart (s : State) (r : Nat) (v : Word) : (s.writeReg r v).rxPart = s.rxPart :=
  (congrArg State.rxPart (writeReg_frame s r v) :)

/-- Only `RX.START` touches the reassembler's registers, and it begins them anew. -/
theorem rxInv_accepted {s : State} (h : s.RxInv) (i : Instr) : (s.accepted i).RxInv := by
  cases i with
  | rxStart e =>
    exact {
      wf := h.wf
      below := h.below
      countFits := Nat.zero_le _
      iterFits := Nat.zero_le _
      resultHolds := nofun
      failureShown := fun _ => ⟨rfl, rfl, rfl⟩
      okOnlyDone := nofun }
  | cfgWr r v => exact h.of_rxPart (writeReg_rxPart s r v)
  | _ => exact h.of_rxPart rfl

theorem rxInv_poll {s : State} (h : s.RxInv) (hp : s.pollEnabled = true) : (poll s).RxInv := by
  obtain ⟨ha, -, hiter⟩ := (pollEnabled_iff s).1 hp
  have hcount : s.rxCount.toNat ≤ 65543 := h.countFits
  have htake := pollTake_eq s
  have hroom : s.rxCount.toNat + s.pollTake ≤ Config.rxbufSize := by rw [Config.rxbufSize]; omega
  exact {
    wf := writeBytes_wf h.wf _ _
    below := writeBytes_below h.below (by rwa [taken_length])
    countFits := by rwa [poll_rxCount_toNat hcount]
    iterFits := by rw [poll_rxIter_toNat hiter]; exact hiter
    resultHolds := fun hd => nomatch ha.symm.trans hd
    failureShown := h.failureShown
    okOnlyDone := h.okOnlyDone }

theorem rxInv_failResponse {s : State} (h : s.RxInv) : s.failResponse.RxInv where
  wf := h.wf
  below := h.below
  countFits := h.countFits
  iterFits := h.iterFits
  resultHolds := nofun
  failureShown := fun _ => ⟨rfl, rfl, rfl⟩
  okOnlyDone := nofun

/-- The declared length fits its two bytes. -/
theorem declared_lt (s : State) : s.declared < 2 ^ 16 := memRead_lt s.rxbuf 2 2

theorem acceptResponse_rxDecl_toNat (s : State) : s.acceptResponse.rxDecl.toNat = s.declared := by
  rw [acceptResponse_rxDecl, BitVec.toNat_ofNat, Nat.mod_eq_of_lt (declared_lt s)]

theorem acceptResponse_rxPlen_toNat (s : State) :
    s.acceptResponse.rxPlen.toNat = min s.declared (s.rxCount.toNat - 8) := by
  have := declared_lt s
  rw [acceptResponse_rxPlen, BitVec.toNat_ofNat, Config.rspOverhead]
  omega

theorem rxInv_acceptResponse {s : State} (h : s.RxInv) (hv : s.responseValid = true) : s.acceptResponse.RxInv := by
  obtain ⟨h8, hmark⟩ := (responseValid_iff s).1 hv
  exact {
    wf := h.wf
    below := h.below
    countFits := h.countFits
    iterFits := h.iterFits
    resultHolds := fun _ _ => ⟨h8, hmark, rfl, acceptResponse_rxDecl_toNat s,
      by rw [acceptResponse_rxPlen_toNat, acceptResponse_rxDecl_toNat, acceptResponse_rxCount]⟩
    failureShown := nofun
    okOnlyDone := fun _ => rfl }

theorem rxInv_finish {s : State} (h : s.RxInv) : (finish s).RxInv := by
  obtain ⟨-, hf⟩ | ⟨hv, -, hf⟩ | ⟨hv, -, -, -, hf⟩ | ⟨-, -, -, -, hf⟩ | ⟨-, -, -, hf⟩ := finish_cases s
  · rw [hf]; exact rxInv_failResponse h
  · rw [hf]; exact rxInv_acceptResponse h hv
  · rw [hf]; exact (rxInv_acceptResponse h hv).of_rxPart rfl
  · rw [hf]; exact (rxInv_failResponse h).of_rxPart rfl
  · rw [hf]; exact (rxInv_failResponse h).of_rxPart rfl

/-! ## The obligations about the invariant -/

theorem txInv_resetFor (p : Config.Params) (txq rxq : List Byte) : (State.resetFor p txq rxq).TxInv where
  wf := rfl
  below := rfl
  emptyIff := iff_of_true rfl rfl
  sizeLegal := fun h => absurd rfl h
  markerPlaced := fun h => absurd rfl h
  frameWritten := fun h => absurd rfl h
  sealHolds := nofun

theorem rxInv_resetFor (p : Config.Params) (txq rxq : List Byte) : (State.resetFor p txq rxq).RxInv where
  wf := rfl
  below := rfl
  countFits := Nat.zero_le _
  iterFits := Nat.zero_le _
  resultHolds := nofun
  failureShown := fun _ => ⟨rfl, rfl, rfl⟩
  okOnlyDone := nofun

/-- Settles O19: every effect keeps both halves of the invariant, and no step changes the parameters. -/
theorem stepKeepsInvariant : Obligations.StepKeepsInvariant := by
  intro s t hinv hstep
  obtain ⟨hlegal, htx, hrx⟩ := (inv_iff s).1 hinv
  refine (inv_iff t).2 ⟨(parametersNeverChange s t hstep).symm ▸ hlegal, ?_⟩
  obtain ⟨e, -, heffect⟩ := step_effect hstep
  have htx' := htx.of_txPart (t := { s with pending := s.pending.tail }) rfl
  have hrx' := hrx.of_rxPart (t := { s with pending := s.pending.tail }) rfl
  cases heffect with
  | accepted _ hr => exact ⟨txInv_accepted htx' hr, rxInv_accepted hrx' _⟩
  | polled hp => exact ⟨htx'.of_txPart rfl, rxInv_poll hrx' hp⟩
  | completed => exact ⟨htx'.of_txPart (finish_txPart _), rxInv_finish hrx'⟩
  | reset => exact ⟨(txInv_resetFor s.inst [] []).of_txPart rfl, (rxInv_resetFor s.inst [] []).of_rxPart rfl⟩
  | refused | passed | pushed | popped => exact ⟨htx'.of_txPart rfl, hrx'.of_rxPart rfl⟩

theorem inv_start {p : Config.Params} (hp : p.legal = true) (txq rxq : List Byte) (schedule : List Event) :
    (State.start p txq rxq schedule).Inv :=
  (inv_iff _).2 ⟨hp, (txInv_resetFor p txq rxq).of_txPart rfl, (rxInv_resetFor p txq rxq).of_rxPart rfl⟩

/-- The parameters of the block in hand meet R7: the markers are 1 to 255 apart, the budget is 1 to `2^32 - 1`. -/
theorem params_legal : Config.params.legal = true := by
  have hdistance := Config.rspMarkDistance.isLt
  have hbudget := Config.retryBudgetLessOne.isLt
  have markers_differ : Config.params.rspStartMark ≠ Config.params.cmdStartMark := by
    have := Config.cmdStartMark.isLt
    intro h
    have h := congrArg BitVec.toNat h
    simp only [Config.params, BitVec.toNat_add, BitVec.toNat_ofNat] at h
    omega
  have budget_positive : Config.params.retryBudget ≠ 0 := by
    intro h
    have h := congrArg BitVec.toNat h
    simp only [Config.params, BitVec.ofNat_eq_ofNat, BitVec.toNat_ofNat] at h
    omega
  rw [Config.Params.legal, Bool.and_eq_true]
  exact ⟨bne_iff_ne.2 markers_differ, bne_iff_ne.2 budget_positive⟩

/-- Settles O17: the values of `State.resetFor`. -/
theorem resetStateHoldsResetValues : Obligations.ResetStateHoldsResetValues := by
  unfold Obligations.ResetStateHoldsResetValues
  simp [State.reset, State.resetFor, Config.crcPolyReset, Config.crcInitReset, Config.crcXoroutReset]

/-- Settles O18. -/
theorem resetMeetsInvariant : Obligations.ResetMeetsInvariant :=
  ⟨inv_start params_legal Config.txqAtReset Config.rxqAtReset [], fun _ txq rxq schedule hp =>
    inv_start hp txq rxq schedule⟩

/-- Settles O20: it holds where a run begins (O18) and every step keeps it (O19). -/
theorem reachableStatesMeetInvariant : Obligations.ReachableStatesMeetInvariant := by
  intro p txq rxq schedule n t hp hrun
  exact run_keeps stepKeepsInvariant (inv_start hp txq rxq schedule) hrun

end Sys2Proof.Machine
end

section
/-! PROOFS. 41_framer.md: what is sent, what a sealed frame holds, what a field write can reach (R44), and the record of the
bytes written (log 14). Which bytes each operation adds to the record is read off the operation it accepts; that no other
step touches buffer or record is said effect by effect (`Effect.frame_kept_or_written`). -/

namespace Sys2Proof

/-- The operations that store to `TXBUF`, as `FrameWritesAreRecorded` lists them. -/
def Instr.writesFrame (i : Instr) : Prop :=
  (∃ opc k, i = .frmOpen opc k) ∨ (∃ off v, i = .frmPut8 off v) ∨ (∃ off v, i = .frmPut16u off v) ∨
    (∃ off v, i = .frmPut16s off v) ∨ i = .frmSeal

end Sys2Proof

namespace Sys2Proof.Machine

/-! ## A sealed frame -/

/-- The stored trailer, as the bits of the checksum (R35 (c)). -/
theorem checksum_of_trailerValid {s : State} (h : s.trailerValid) :
    s.checksum s.coveredBytes = BitVec.ofNat 32 (s.txbuf.memRead s.trailerAt Config.crcLen) := by
  rw [h, BitVec.ofNat_toNat, BitVec.setWidth_eq]

/-- Settles O45: `CRC.RUNTX` recomputes the checksum of the covered bytes, which the trailer of a sealed frame holds. -/
theorem sealedTrailerIsRecomputed : Obligations.SealedTrailerIsRecomputed := by
  intro s hinv hb ht
  have hexec : exec (.crcRuntx s.trailerAt) s = answerWith (s.checksum s.coveredBytes) (s.runChecksum s.coveredBytes) :=
    exec_crcRuntx hb (by simp [ht]) (Nat.sub_le _ _)
  refine ⟨_, hexec, ?_, rfl⟩
  rw [reply_answer, checksum_of_trailerValid (hinv.sealHolds ht)]
  rfl

theorem readBytes_add (m : Memory) (a n k : Nat) :
    m.readBytes a (n + k) = m.readBytes a n ++ m.readBytes (a + n) k := by
  induction n generalizing a with
  | zero => simp [Memory.readBytes]
  | succ n ih =>
    rw [Nat.add_right_comm, Memory.readBytes, ih, Memory.readBytes, List.cons_append, Nat.add_right_comm a 1 n,
      Nat.add_assoc a n 1]

theorem readBytes_eq_map_from (m : Memory) (a n : Nat) :
    m.readBytes a n = (List.range n).map fun j => m.read (a + j) := by
  refine List.ext_getElem (by simp) fun j h _ => ?_
  rw [readBytes_getElem, List.getElem_map, List.getElem_range]

/-- A sealed frame is its covered bytes and then the bytes of their checksum, the low one first. -/
theorem sealed_frame_eq {s : State} (h : s.TxInv) (ht : s.txState = .sealed) :
    s.txbuf.readBytes 0 s.txSize.toNat =
      s.coveredBytes ++ (List.range 4).map fun j => (s.checksum s.coveredBytes).extractLsb' (8 * j) 8 := by
  have hsize := txSize_le h (by simp [ht])
  have hsplit : s.txSize.toNat = s.trailerAt + Config.crcLen := by rw [State.trailerAt, Config.crcLen]; omega
  have htrailer := (memRead_eq_toNat_iff (w := 32) (n := Config.crcLen) le_rfl s.txbuf s.trailerAt _).1 (h.sealHolds ht)
  rw [hsplit, readBytes_add, Nat.zero_add, readBytes_eq_map_from s.txbuf s.trailerAt]
  refine congrArg (s.coveredBytes ++ ·) (List.map_congr_left fun j hj => htrailer j (List.mem_range.1 hj))

theorem coveredBytes_length {s : State} (h : s.TxInv) (ht : s.txState ≠ .empty) : 10 ≤ s.coveredBytes.length := by
  have hsize := txSize_le h ht
  rw [State.coveredBytes, readBytes_length, State.trailerAt, Config.crcLen]
  omega

theorem coveredBytes_head? {s : State} (h : s.TxInv) (ht : s.txState ≠ .empty) :
    s.coveredBytes.head? = some s.inst.cmdStartMark := by
  have hlen := coveredBytes_length h ht
  rw [List.head?_eq_getElem?, List.getElem?_eq_getElem (by omega)]
  simp only [State.coveredBytes, readBytes_getElem, h.markerPlaced ht]

/-- Settles O46: only an accepted `FRM.SEND` appends, and what it appends is a sealed frame (`sealed_frame_eq`). -/
theorem sentFramesCarryTheirChecksum : Obligations.SentFramesCarryTheirChecksum := by
  intro s t hinv hstep
  obtain ⟨-, htx, -⟩ := (inv_iff s).1 hinv
  obtain ⟨e, -, heffect⟩ := step_effect hstep
  cases heffect with
  | @accepted _ i _ hr =>
    by_cases hi : i = .frmSend
    · subst hi
      obtain ⟨-, hseq, -⟩ := refusal_eq_none_iff.1 hr
      have ht : s.txState = .sealed := not_not.1 (of_decide_eq_false hseq)
      have hne : s.txState ≠ .empty := by simp [ht]
      refine .inr (.inr ⟨s.coveredBytes, coveredBytes_length htx hne, coveredBytes_head? htx hne, ?_⟩)
      rw [List.append_assoc, ← sealed_frame_eq htx ht]
      rfl
    · exact .inl (accepted_txq hi _)
  | completed => exact .inl (finish_txq _)
  | popped => exact .inr (.inl rfl)
  | refused | passed | polled | pushed | reset => exact .inl rfl

/-! ## What a field write can reach -/

theorem putPayload_read_framing {s : State} {off n v : Nat} (hlo : 2 ≤ off) (hhi : off + n + 4 ≤ s.txSize.toNat)
    (a : Nat) (ha : a < 2 ∨ s.txSize.toNat - 4 ≤ a) : (s.putPayload off n v).txbuf.read a = s.txbuf.read a :=
  read_memWrite_outside (by omega)

/-- Settles O43: the checks keep `off` to `off + n - 1` inside the payload area. -/
theorem fieldWritesLeaveFramingBytes : Obligations.FieldWritesLeaveFramingBytes := by
  intro i s t hi hexec
  rw [exec_eq, Host.Outcome.next.injEq] at hexec
  subst hexec
  cases hr : s.refusal i with
  | some f => exact fun _ _ => rfl
  | none =>
    obtain ⟨off, v, rfl⟩ | ⟨off, v, rfl⟩ | ⟨off, v, rfl⟩ := hi
    · obtain ⟨-, hlo, hhi⟩ := frmPut8_checks hr
      exact putPayload_read_framing hlo hhi
    · obtain ⟨-, hlo, hhi⟩ := frmPut16u_checks hr
      exact putPayload_read_framing hlo hhi
    · obtain ⟨-, hlo, hhi⟩ := frmPut16s_checks hr
      exact putPayload_read_framing hlo hhi

/-! ## The record of the bytes written (log 14) -/

theorem mem_putPayload_txWritten {s : State} {off n v a : Nat} :
    a ∈ (s.putPayload off n v).txWritten ↔ a ∈ s.txWritten ∨ off ≤ a ∧ a < off + n := by
  rw [putPayload_txWritten, mem_recordWrites, littleEndian_length]

theorem mem_openFrame_txWritten {s : State} {opc : Byte} {k a : Nat} :
    a ∈ (s.openFrame opc k).txWritten ↔ a < 14 + 2 * k := by
  rw [openFrame_txWritten, mem_recordWrites, openedFrame_length]
  simp

theorem mem_sealFrame_txWritten {s : State} {a : Nat} :
    a ∈ s.sealFrame.txWritten ↔ a ∈ s.txWritten ∨ s.trailerAt ≤ a ∧ a < s.trailerAt + 4 := by
  rw [sealFrame_txWritten, mem_recordWrites, Config.crcLen]

/-- A byte that a write changes is in the record of it. -/
theorem mem_recordWrites_of_changed {m : Memory} {written : List Nat} {a : Nat} {bs : List Byte} {x : Nat}
    (h : (m.writeBytes a bs).read x ≠ m.read x) : x ∈ recordWrites written a bs.length := by
  refine mem_recordWrites.2 (.inr ?_)
  by_contra hx
  exact h (read_writeBytes_outside (by omega))

/-- What an accepted operation does to buffer and record: nothing, or it is one of the five and records its changes. -/
theorem accepted_frame_kept_or_written (s : State) (i : Instr) :
    ((s.accepted i).txbuf = s.txbuf ∧ (s.accepted i).txWritten = s.txWritten) ∨
    (i.writesFrame ∧ ∀ a, (s.accepted i).txbuf.read a ≠ s.txbuf.read a → a ∈ (s.accepted i).txWritten) := by
  cases i with
  | frmOpen _ _ | frmPut8 _ _ | frmPut16u _ _ | frmPut16s _ _ | frmSeal =>
    exact .inr ⟨by simp [Instr.writesFrame], fun _ => mem_recordWrites_of_changed⟩
  | cfgWr r v =>
    exact .inl ⟨(congrArg State.txbuf (writeReg_frame s r v) :), (congrArg State.txWritten (writeReg_frame s r v) :)⟩
  | _ => exact .inl ⟨rfl, rfl⟩

/-- What an effect other than reset does to buffer and record. -/
theorem Effect.frame_kept_or_written {s t : State} {e : Event} (h : Effect s e t) (he : e ≠ .reset) :
    (t.txbuf = s.txbuf ∧ t.txWritten = s.txWritten) ∨
    ((∃ w i, e = .host w ∧ decode w = .ok i ∧ i.writesFrame) ∧
      ∀ a, t.txbuf.read a ≠ s.txbuf.read a → a ∈ t.txWritten) := by
  cases h with
  | @accepted w i hi =>
    obtain hkept | ⟨hwrites, hrecorded⟩ := accepted_frame_kept_or_written s i
    · exact .inl hkept
    · exact .inr ⟨⟨w, i, rfl, hi, hwrites⟩, hrecorded⟩
  | completed => exact .inl ⟨(congrArg State.txbuf (finish_frame s) :), (congrArg State.txWritten (finish_frame s) :)⟩
  | reset => exact absurd rfl he
  | refused | passed | polled | pushed | popped => exact .inl ⟨rfl, rfl⟩

theorem step_frame_recorded {s t : State} (hstep : step s = .next t) (hreset : s.pending.head? ≠ some .reset) :
    (∀ a, t.txbuf.read a ≠ s.txbuf.read a → a ∈ t.txWritten) ∧
    (t.txWritten ≠ s.txWritten → ∃ w i, s.pending.head? = some (.host w) ∧ decode w = .ok i ∧ i.writesFrame) := by
  obtain ⟨e, he, heffect⟩ := step_effect hstep
  have hne : e ≠ .reset := fun h => hreset (h ▸ head?_of_takesNext he (h ▸ nofun))
  obtain ⟨hbuf, hwritten⟩ | ⟨⟨w, i, rfl, hi, hwrites⟩, hrecorded⟩ := heffect.frame_kept_or_written hne
  · exact ⟨fun a ha => absurd (congrArg (Memory.read · a) hbuf) ha, fun h => absurd hwritten h⟩
  · exact ⟨hrecorded, fun _ => ⟨w, i, head?_of_takesNext he nofun, hi, hwrites⟩⟩

/-- Settles O44: each accepted operation by the write it makes, the last clause by `step_frame_recorded`. -/
theorem frameWritesAreRecorded : Obligations.FrameWritesAreRecorded := by
  refine ⟨fun opc k s t hb hk hexec a => ?_, fun off v s t hb ht hlo hhi hexec a => ?_,
    fun off i s t hi hb ht hlo hhi hexec a => ?_, fun s t hb ht hsize hexec a => ?_,
    fun s t hstep hreset => step_frame_recorded hstep hreset⟩
  · obtain rfl := complete_next ((exec_frmOpen hb opc hk).symm.trans hexec)
    exact mem_openFrame_txWritten
  · obtain rfl := complete_next ((exec_frmPut8 hb ht v hlo hhi).symm.trans hexec)
    rw [reply_txWritten, mem_putPayload_txWritten]
    exact or_congr_right (by omega)
  · obtain ⟨v, hv⟩ : ∃ v, exec (.frmPut16u off v) s = .next t := by
      obtain ⟨v, rfl⟩ | ⟨v, rfl⟩ := hi
      · exact ⟨v, hexec⟩
      · exact ⟨_, (exec_frmPut16s off v s).symm.trans hexec⟩
    obtain rfl := complete_next ((exec_frmPut16u hb ht v hlo hhi).symm.trans hv)
    rw [reply_txWritten, mem_putPayload_txWritten]
    exact or_congr_right (by omega)
  · obtain rfl := answerWith_next ((exec_frmSeal hb ht).symm.trans hexec)
    rw [reply_txWritten, mem_sealFrame_txWritten, State.trailerAt, Config.crcLen]
    exact or_congr_right (by omega)

end Sys2Proof.Machine
end

section
/-! PROOFS. 30_encoding.md: the decoder and the encoder are inverse to each other (R60 to R62), and the legal words are the
instances of the table's rows (R63). A row is cut into fields as a word is (`fields_of_row`). -/

namespace Sys2Proof

/-! ## Decoding what was encoded -/

/-- A natural that fits its field is the number of the field's bits. -/
theorem toNat_ofNat_of_fits {w n : Nat} (h : fitsField w n = true) : (BitVec.ofNat w n).toNat = n :=
  Nat.mod_eq_of_lt (of_decide_eq_true h)

theorem fitsField_toNat {w : Nat} (v : BitVec w) : fitsField w v.toNat = true := decide_eq_true v.isLt

/-- The signed operand of `FRM.PUT16S` is the number of its two's-complement bits (R62, R104). -/
theorem toInt_ofInt_of_range {v : Int} (h : -32768 ≤ v ∧ v ≤ 32767) : (BitVec.ofInt 16 v).toInt = v := by
  obtain ⟨hlo, hhi⟩ := h
  exact BitVec.toInt_ofInt_eq_self (by decide) (by omega) (by omega)

/-- A byte in the low half of `h` is read back from it. -/
@[simp] theorem hLow_lowHalf (op a b : Byte) (d : Word) : (⟨op, a, lowHalf b, d⟩ : Fields).hLow = b := by
  apply BitVec.eq_of_toNat_eq
  simp [Fields.hLow, lowHalf, b.isLt]

@[simp] theorem hHigh_lowHalf (op a b : Byte) (d : Word) : (⟨op, a, lowHalf b, d⟩ : Fields).hHigh = 0#8 := by
  have hb : (lowHalf b).toNat < 2 ^ 8 :=
    (BitVec.toNat_setWidth_of_le (show 8 ≤ 16 by decide)).trans_lt b.isLt
  exact (extractLsb'_eq_zero_iff (k := 8) (m := 8) le_rfl (lowHalf b)).2 hb

/-- Settles O1: the fields of an operation's word, decoded, give every operand back. -/
theorem decodeInvertsEncode : Obligations.DecodeInvertsEncode := by
  intro i hwf
  rw [decode_encode_fields]
  cases i with
  | crcInit | crcRead | frmSeal | frmSend => rfl
  | crcByte b => simp [Instr.fields, Fields.decode, Fields.legalIf]
  | crcRuntx n | crcRunrx n | frmOpen _ n | frmPut8 n _ | frmPut16u n _ | frmGet n | rxStart n | rxGet n | rxRaw n
  | cfgRd n | cfgWr n _ =>
    simp [Instr.fields, Fields.decode, Fields.legalIf, toNat_ofNat_of_fits hwf]
  | frmPut16s off v =>
    obtain ⟨hoff, hv⟩ := Bool.and_eq_true_iff.1 hwf
    simp [Instr.fields, Fields.decode, Fields.legalIf, toNat_ofNat_of_fits hoff,
      toInt_ofInt_of_range (of_decide_eq_true hv)]

/-! ## Encoding what was decoded -/

theorem toInt_range (h : BitVec 16) : -32768 ≤ h.toInt ∧ h.toInt ≤ 32767 := by
  have hlo := BitVec.le_toInt h
  have hhi := BitVec.toInt_lt (x := h)
  omega

/-- What the decoder gives is well formed: its operands are the numbers of fields. -/
theorem wellFormed_of_decode {f : Fields} {i : Instr} (h : f.decode = .ok i) : i.wellFormed = true := by
  unfold Fields.decode at h
  split at h
  case h_18 => cases h
  all_goals
    obtain ⟨-, rfl⟩ := legalIf_ok h
    simp [Instr.wellFormed, fitsField_toNat, toInt_range]

/-- Settles O2: `encode_of_decode`, and the operands are in range. -/
theorem encodeInvertsDecode : Obligations.EncodeInvertsDecode :=
  fun _ _ h => ⟨wellFormed_of_decode h, encode_of_decode h⟩

/-! ## The rows of the table -/

/-- The mask of an operation's row, cut into the fields of R60; `tableRow_eq` ties it to the table. -/
def Instr.rowMask : Instr → Fields
  | .crcInit | .crcRead | .frmSeal | .frmSend => ⟨.allOnes 8, .allOnes 8, .allOnes 16, .allOnes 32⟩
  | .crcByte _ => ⟨.allOnes 8, .allOnes 8, 0xFF00, .allOnes 32⟩
  | .crcRuntx _ | .rxStart _ | .rxGet _ => ⟨.allOnes 8, .allOnes 8, 0, .allOnes 32⟩
  | .crcRunrx _ | .rxRaw _ => ⟨.allOnes 8, .allOnes 8, .allOnes 16, 0⟩
  | .frmOpen _ _ | .frmPut8 _ _ => ⟨.allOnes 8, 0, 0xFF00, .allOnes 32⟩
  | .frmPut16u _ _ | .frmPut16s _ _ => ⟨.allOnes 8, 0, 0, .allOnes 32⟩
  | .frmGet _ | .cfgRd _ => ⟨.allOnes 8, 0, .allOnes 16, .allOnes 32⟩
  | .cfgWr _ _ => ⟨.allOnes 8, 0, .allOnes 16, 0⟩

theorem tableRow_eq (i : Instr) : i.tableRow = ⟨i.rowMask.word, Fields.word ⟨i.fields.op, 0, 0, 0⟩⟩ := by
  cases i <;> simp only [Instr.tableRow, Instr.rowMask, Instr.fields] <;> decide

theorem Fields.word_injective {f g : Fields} (h : f.word = g.word) : f = g := by
  rw [← Fields.fields_word f, h, Fields.fields_word]

/-- A word of a row has the `op` of the row's operation, and zeros where the row's mask has ones. -/
theorem fields_of_row {f : Fields} {i : Instr} (h : f.word &&& i.tableRow.mask = i.tableRow.pattern) :
    f.op = i.fields.op ∧ f.a &&& i.rowMask.a = 0 ∧ f.h &&& i.rowMask.h = 0 ∧ f.d &&& i.rowMask.d = 0 := by
  have hop : i.rowMask.op = .allOnes 8 := by cases i <;> rfl
  rw [tableRow_eq, Fields.and_word] at h
  have hfields := Fields.word_injective h
  rwa [Fields.mk.injEq, hop, BitVec.and_allOnes] at hfields

/-- A halfword whose high byte is masked to zero has no high byte. -/
theorem hHigh_of_masked {op a : Byte} {h : BitVec 16} {d : Word} (hmask : h &&& 0xFF00#16 = 0#16) :
    (⟨op, a, h, d⟩ : Fields).hHigh = 0#8 := by
  have hbyte := congrArg (BitVec.extractLsb' 8 8) hmask
  rwa [BitVec.extractLsb'_and, show BitVec.extractLsb' 8 8 0xFF00#16 = BitVec.allOnes 8 by decide,
    BitVec.and_allOnes] at hbyte

/-- Every word of a row decodes: the bits that the row's mask covers are the ones that must be zero. -/
theorem decode_ok_of_row {f : Fields} {i : Instr} (h : f.word &&& i.tableRow.mask = i.tableRow.pattern) :
    ∃ j, f.decode = .ok j := by
  obtain ⟨hop, ha, hh, hd⟩ := fields_of_row h
  obtain ⟨op, a, half, d⟩ := f
  subst hop
  cases i with
  | crcInit | crcRead | frmSeal | frmSend | crcRuntx _ | crcRunrx _ | frmPut16u _ _ | frmPut16s _ _ | frmGet _
  | rxStart _ | rxGet _ | rxRaw _ | cfgRd _ | cfgWr _ _ =>
    simp only [Instr.rowMask, BitVec.and_allOnes] at ha hh hd
    simp [Instr.fields, Fields.decode, Fields.legalIf, ha, hh, hd]
  | crcByte _ | frmOpen _ _ | frmPut8 _ _ =>
    simp only [Instr.rowMask, BitVec.and_allOnes] at ha hh hd
    simp [Instr.fields, Fields.decode, Fields.legalIf, ha, hHigh_of_masked hh, hd]

theorem row_of_decode {w : OpWord} {i : Instr} (h : decode w = .ok i) :
    w &&& i.tableRow.mask = i.tableRow.pattern :=
  encode_of_decode h ▸ encode_and_mask i

/-- Settles O3: a legal word lies in its operation's row (`row_of_decode`), a word of a row is legal. -/
theorem legalWordsAreTableInstances : Obligations.LegalWordsAreTableInstances := by
  refine fun w => ⟨⟨fun ⟨i, hi⟩ => ⟨_, tableRow_mem i, row_of_decode hi⟩, fun ⟨r, hr, hw⟩ => ?_⟩,
    fun i hi => row_of_decode hi⟩
  obtain ⟨i, -, rfl⟩ := List.mem_map.1 hr
  rw [← OpWord.word_fields w] at hw ⊢
  rw [decode_word]
  exact decode_ok_of_row hw

/-- Settles O4. -/
theorem exampleWordsDecode : Obligations.ExampleWordsDecode := by
  refine ⟨?_, ?_, ?_, ?_, ?_, ?_, ?_, ?_⟩ <;> decide

end Sys2Proof
end

section
/-! PROOFS. 40_crc.md: the checksum is linear over GF(2) (R83, R90), and streaming it byte by byte is running it (R87). The
bit step of R80 is linear in the accumulator (`crcStep_xor`); the laws of the folds and of the checksum follow from that. -/

namespace Sys2Proof.Machine

/-! ## Bit steps (R80) -/

theorem xor_xor_xor_comm {w : Nat} (a b c d : BitVec w) : (a ^^^ b) ^^^ (c ^^^ d) = (a ^^^ c) ^^^ (b ^^^ d) := by
  ac_rfl

/-- What a bit step feeds back: the polynomial where the top bit was set. -/
def feedback (poly acc : Word) : Word := if acc.msb then poly else 0

theorem crcStep_eq_xor_feedback (poly acc : Word) : crcStep poly acc = acc <<< 1 ^^^ feedback poly acc := by
  rw [crcStep, feedback]
  split_ifs
  · rfl
  · exact BitVec.xor_zero.symm

/-- Two feedbacks cancel. -/
theorem feedback_xor (poly x y : Word) : feedback poly (x ^^^ y) = feedback poly x ^^^ feedback poly y := by
  simp only [feedback, BitVec.msb_xor]
  cases x.msb <;> cases y.msb <;> simp

theorem crcStep_xor (poly x y : Word) : crcStep poly (x ^^^ y) = crcStep poly x ^^^ crcStep poly y := by
  simp only [crcStep_eq_xor_feedback, feedback_xor, BitVec.shiftLeft_xor_distrib]
  exact xor_xor_xor_comm _ _ _ _

theorem crcSteps_xor (poly : Word) (n : Nat) (x y : Word) :
    crcSteps poly n (x ^^^ y) = crcSteps poly n x ^^^ crcSteps poly n y := by
  induction n generalizing x y with
  | zero => rfl
  | succ n ih => rw [crcSteps, crcStep_xor, ih]; rfl

/-- While no set bit reaches the top, a bit step is a plain shift. -/
theorem crcSteps_of_lt (poly : Word) {n : Nat} {x : Word} (hx : x.toNat * 2 ^ n < 2 ^ 32) :
    crcSteps poly n x = x <<< n := by
  induction n generalizing x with
  | zero => exact (BitVec.shiftLeft_zero x).symm
  | succ n ih =>
    have hdouble : x.toNat * 2 * 2 ^ n < 2 ^ 32 := by rwa [Nat.mul_assoc, ← Nat.pow_succ']
    have hlt : x.toNat * 2 < 2 ^ 32 := (Nat.le_mul_of_pos_right _ (Nat.two_pow_pos n)).trans_lt hdouble
    have hmsb : x.msb = false := by
      rw [BitVec.msb_eq_decide, decide_eq_false_iff_not]
      omega
    have hstep : crcStep poly x = x <<< 1 := by rw [crcStep, hmsb]; rfl
    have hshift : (x <<< 1).toNat = x.toNat * 2 := by
      rw [BitVec.toNat_shiftLeft, Nat.shiftLeft_eq, Nat.pow_one, Nat.mod_eq_of_lt hlt]
    rw [crcSteps, hstep, ih (by rwa [hshift]), ← BitVec.shiftLeft_add, Nat.add_comm]

/-! ## Folds (R82, R83, R90) -/

theorem foldMsb8_zero (poly acc : Word) : foldMsb8 poly acc 0 = crcSteps poly 8 acc := by
  rw [foldMsb8]
  congr 1
  simp

/-- A byte that enters at the bottom is at the top after 24 steps. -/
theorem crcSteps_xor_byte (poly acc : Word) (b : Byte) :
    crcSteps poly 24 (acc ^^^ b.zeroExtend 32) = crcSteps poly 24 acc ^^^ (b.zeroExtend 32 <<< 24) := by
  have hb : (b.zeroExtend 32).toNat = b.toNat := BitVec.toNat_setWidth_of_le (by decide)
  have hlt := b.isLt
  rw [crcSteps_xor, crcSteps_of_lt poly (x := b.zeroExtend 32) (by rw [hb]; omega)]

/-- Settles O32: 24 of the 32 steps bring the byte to the top (`crcSteps_xor_byte`), three folds of zero are those steps. -/
theorem word32FoldIsFourMsb8Folds : Obligations.Word32FoldIsFourMsb8Folds := by
  intro poly acc b
  calc foldWord32 poly acc b
    _ = crcSteps poly 8 (crcSteps poly 24 (acc ^^^ b.zeroExtend 32)) := crcSteps_add poly 24 8 _
    _ = foldMsb8 poly (crcSteps poly (8 + 8 + 8) acc) b := by rw [crcSteps_xor_byte]; rfl
    _ = foldMsb8 poly (foldMsb8 poly (foldMsb8 poly (foldMsb8 poly acc 0) 0) 0) b := by
      simp only [crcSteps_add, foldMsb8_zero]

theorem crcSteps_zero_poly (n : Nat) (x : Word) : crcSteps 0 n x = x <<< n := by
  have hstep (y : Word) : crcStep 0 y = y <<< 1 := by simp [crcStep_eq_xor_feedback, feedback]
  induction n generalizing x with
  | zero => exact (BitVec.shiftLeft_zero x).symm
  | succ n ih => rw [crcSteps, hstep, ih, ← BitVec.shiftLeft_add, Nat.add_comm]

/-- Settles O34: `crcSteps_zero_poly` with 8 steps and with 32. -/
theorem zeroPolynomialShifts : Obligations.ZeroPolynomialShifts :=
  fun _ _ => ⟨crcSteps_zero_poly 8 _, (crcSteps_zero_poly 32 _).trans (BitVec.shiftLeft_eq_zero le_rfl)⟩

/-- A fold is linear in accumulator and byte together. -/
theorem foldByte_xor (f : Config.Fold) (poly x y : Word) (b c : Byte) :
    foldByte f poly (x ^^^ y) (b ^^^ c) = foldByte f poly x b ^^^ foldByte f poly y c := by
  have hbyte : (b ^^^ c).zeroExtend 32 = b.zeroExtend 32 ^^^ c.zeroExtend 32 := BitVec.setWidth_xor
  cases f with
  | msb8 =>
    simp only [foldByte_msb8, foldMsb8, ← crcSteps_xor, hbyte, BitVec.shiftLeft_xor_distrib]
    rw [xor_xor_xor_comm]
  | word32 =>
    simp only [foldByte_word32, foldWord32, ← crcSteps_xor, hbyte]
    rw [xor_xor_xor_comm]

/-! ## The checksum (R84, R90) -/

/-- The bytes of two strings added one by one. -/
def xorBytes (xs ys : List Byte) : List Byte := List.zipWith (fun a b => a ^^^ b) xs ys

/-- The fold of a string is linear in accumulator and string together. -/
theorem foldBytes_xor (f : Config.Fold) (poly x y : Word) {bs cs : List Byte} (h : bs.length = cs.length) :
    foldBytes f poly (x ^^^ y) (xorBytes bs cs) = foldBytes f poly x bs ^^^ foldBytes f poly y cs := by
  induction bs generalizing x y cs with
  | nil =>
    obtain rfl := List.length_eq_zero_iff.1 h.symm
    rfl
  | cons b bs ih =>
    obtain ⟨c, cs, rfl⟩ := List.exists_cons_of_length_eq_add_one h.symm
    rw [xorBytes, List.zipWith_cons_cons, foldBytes_cons, foldBytes_cons, foldBytes_cons, foldByte_xor]
    exact ih _ _ (Nat.succ.inj h)

theorem xorBytes_zeros (bs : List Byte) : xorBytes bs (List.replicate bs.length 0) = bs := by
  induction bs with
  | nil => rfl
  | cons b bs ih =>
    rw [xorBytes, List.length_cons, List.replicate_succ, List.zipWith_cons_cons]
    exact congrArg₂ List.cons BitVec.xor_zero ih

/-- Settles O33: the fold of `x XOR y` from `CRC_INIT` is that from 0 and that of zeros (`foldBytes_xor`), and the fold from
0 is those of `x` and `y`; of the three `CRC_XOROUT` one is left. -/
theorem checksumIsAffine : Obligations.ChecksumIsAffine := by
  intro s x y hlen
  have hlen' : (xorBytes x y).length = x.length := by simp [xorBytes, hlen]
  have hsum := foldBytes_xor s.inst.crcFold s.crcPoly s.crcInit s.crcInit hlen
  have hzeros := foldBytes_xor s.inst.crcFold s.crcPoly 0#32 s.crcInit
    (List.length_replicate (n := (xorBytes x y).length) (a := (0 : Byte))).symm
  rw [BitVec.xor_self] at hsum
  rw [BitVec.zero_xor, xorBytes_zeros, hsum, hlen'] at hzeros
  calc s.checksum x ^^^ s.checksum y ^^^ s.checksum (List.replicate x.length 0)
    _ = (s.rawSum x ^^^ s.rawSum y ^^^ s.rawSum (List.replicate x.length 0)) ^^^ s.crcXorout := by
      rw [State.checksum, State.checksum, State.checksum, xor_xor_xor_comm (s.rawSum x) _ (s.rawSum y),
        BitVec.xor_self, BitVec.xor_zero, BitVec.xor_assoc _ _ s.crcXorout]
    _ = s.checksum (xorBytes x y) := congrArg (· ^^^ s.crcXorout) hzeros.symm

/-! ## The checksum streamed (R85 to R87) -/

theorem step_host {s : State} {w : OpWord} {rest : List Event} {i : Instr} (hp : s.pending = .host w :: rest)
    (hw : decode w = .ok i) : step s = exec i { s with pending := rest } :=
  stepRunsDecodedOperation s w rest i hp hw

theorem step_encoded {s : State} {i : Instr} {rest : List Event} (hp : s.pending = .host (encode i) :: rest)
    (hwf : i.wellFormed = true) : step s = exec i { s with pending := rest } :=
  step_host hp (decodeInvertsEncode i hwf)

/-- The words of a stream after `CRC.INIT`: one `CRC.BYTE` per byte, then `CRC.READ`. -/
def streamOf (bs : List Byte) : List Event :=
  (bs.map fun b => Event.host (encode (.crcByte b))) ++ [.host (encode .crcRead)]

/-- Wherever the accumulator stands, the stream folds its bytes into it and answers it XOR `CRC_XOROUT`. -/
theorem run_stream {s : State} (hb : s.rxState ≠ .active) {bs : List Byte} (hp : s.pending = streamOf bs) :
    Host.Core.run Sys2Proof.core (bs.length + 1) s = .next { s with
      pending := []
      crcAcc := foldBytes s.inst.crcFold s.crcPoly s.crcAcc bs
      answer := some ⟨foldBytes s.inst.crcFold s.crcPoly s.crcAcc bs ^^^ s.crcXorout, false⟩ } := by
  induction bs generalizing s with
  | nil =>
    have hstep := (step_encoded hp rfl).trans (exec_crcRead (s := { s with pending := [] }) hb)
    exact (run_succ Sys2Proof.core hstep).trans rfl
  | cons b bs ih =>
    have hstep := (step_encoded hp rfl).trans (exec_crcByte (s := { s with pending := streamOf bs }) hb b)
    exact (run_succ Sys2Proof.core hstep).trans (ih hb rfl)

/-- Settles O35: `CRC.INIT` loads the seed, and the stream folds the bytes into it. -/
theorem streamedChecksumIsChecksum : Obligations.StreamedChecksumIsChecksum := by
  intro s bs hb hp
  have hstep := (step_encoded hp rfl).trans (exec_crcInit (s := { s with pending := streamOf bs }) hb)
  have hrun := run_stream (s := { s with pending := streamOf bs, crcAcc := s.crcInit, answer := some ⟨0, false⟩ }) hb rfl
  exact (run_succ Sys2Proof.core hstep).trans hrun

end Sys2Proof.Machine
end

section
/-! PROOFS. 42_reassembler.md sections 3 and 4: a reassembly polls, ends, and delivers a whole response that waits (R126,
R128). What a step can do to a running reassembly is said once (`Effect.of_active`): it ends, or it goes on with the polls
the budget has left, one less after the sequencer's step. -/

namespace Sys2Proof.Machine

/-! ## The first poll -/

theorem retryBudget_pos {p : Config.Params} (h : p.legal = true) : 0 < p.retryBudget.toNat := by
  obtain ⟨-, hbudget⟩ := Bool.and_eq_true_iff.1 h
  exact Nat.pos_of_ne_zero fun h0 => bne_iff_ne.1 hbudget (BitVec.eq_of_toNat_eq h0)

/-- Where nothing has been gathered or counted a poll is enabled: the target is at least 8, the budget at least 1. -/
theorem pollEnabled_of_started {s : State} (hlegal : s.inst.legal = true) (ha : s.rxState = .active)
    (hcount : s.rxCount = 0) (hiter : s.rxIter = 0) : s.pollEnabled = true := by
  refine (pollEnabled_iff s).2 ⟨ha, ?_, ?_⟩
  · rw [hcount]; exact Nat.succ_pos _
  · rw [hiter]; exact retryBudget_pos hlegal

/-- A poll into the empty buffer takes what `RXBUF` can hold. -/
theorem poll_rxCount_of_empty {s : State} (hcount : s.rxCount = 0) :
    (poll s).rxCount.toNat = min s.rxq.length 65543 := by
  have h0 : s.rxCount.toNat = 0 := by rw [hcount]; rfl
  rw [poll_rxCount_toNat (by omega), pollTake_eq, h0, Nat.zero_add, Nat.sub_zero]

theorem poll_rxq_of_empty {s : State} (hcount : s.rxCount = 0) :
    (poll s).rxq = s.rxq.drop (poll s).rxCount.toNat := by
  have h0 : s.rxCount.toNat = 0 := by rw [hcount]; rfl
  rw [poll_rxCount_of_empty hcount, poll_rxq, pollTake_eq, h0, Nat.sub_zero]

/-- The sequencer's first step of a reassembly is a poll (R128). -/
theorem step_polls_of_started {s : State} {rest : List Event} (hp : s.pending = .sequencer :: rest)
    (hlegal : s.inst.legal = true) (ha : s.rxState = .active) (hcount : s.rxCount = 0) (hiter : s.rxIter = 0) :
    step s = .next (poll { s with pending := rest }) := by
  have hon := pollEnabled_of_started (s := { s with pending := rest }) hlegal ha hcount hiter
  rw [step_sequencer hp, sequencerStep_of_pollEnabled hon]

/-- `RX.START` as the accepted operation, its operand a natural. -/
theorem exec_rxStart_accepted {s : State} (hb : s.rxState ≠ .active) (n : Nat) :
    exec (.rxStart n) s = .next (s.accepted (.rxStart n)) := unlessBusy_free hb _

/-- Settles O53: `RX.START` leaves `RX_COUNT` and `RX_ITER` zero, so the sequencer's step is a poll. -/
theorem everyReassemblyPollsOnce : Obligations.EveryReassemblyPollsOnce := by
  intro e s t rest hlegal hb hexec
  rw [exec_rxStart_accepted hb, Host.Outcome.next.injEq] at hexec
  subst hexec
  exact ⟨_, step_polls_of_started rfl hlegal rfl rfl rfl, rfl, rfl, rfl, poll_rxCount_of_empty rfl,
    poll_rxq_of_empty rfl⟩

/-! ## Every reassembly ends (R128) -/

/-- The polls the budget has left. -/
def State.pollsLeft (s : State) : Nat := s.inst.retryBudget.toNat - s.rxIter.toNat

theorem pollsLeft_poll {s : State} (hp : s.pollEnabled = true) : (poll s).pollsLeft + 1 = s.pollsLeft := by
  obtain ⟨-, -, hiter⟩ := (pollEnabled_iff s).1 hp
  rw [State.pollsLeft, State.pollsLeft, poll_rxIter_toNat hiter, poll_inst]
  omega

/-- Everything an event other than reset can do to a running reassembly. -/
theorem Effect.of_active {s t : State} {e : Event} (h : Effect s e t) (ha : s.rxState = .active) (he : e ≠ .reset) :
    t.rxState = .done ∨ (t.rxState = .active ∧ t.pending = s.pending ∧
      t.pollsLeft + (if e = .sequencer then 1 else 0) = s.pollsLeft) := by
  cases h with
  | accepted _ hr =>
    obtain ⟨r, rfl⟩ := eq_cfgRd_of_active ha hr
    exact .inr ⟨ha, rfl, rfl⟩
  | passed hidle => exact absurd ha hidle
  | polled hp => exact .inr ⟨ha, rfl, pollsLeft_poll hp⟩
  | completed => exact .inl (finish_rxState s)
  | reset => exact absurd rfl he
  | refused | pushed | popped => exact .inr ⟨ha, rfl, rfl⟩

/-- By induction on the schedule: no step of it takes more polls than it counts sequencer steps. -/
theorem schedule_reaches_done {schedule : List Event} {s : State} (hp : s.pending = schedule)
    (ha : s.rxState = .active) (hreset : Event.reset ∉ schedule) (hleft : s.pollsLeft < schedule.count .sequencer) :
    ∃ k t, k ≤ schedule.length ∧ Host.Core.run Sys2Proof.core k s = .next t ∧ t.rxState = .done := by
  induction schedule generalizing s with
  | nil => exact absurd hleft (Nat.not_lt_zero _)
  | cons e rest ih =>
    obtain ⟨he, hrest⟩ := List.ne_and_not_mem_of_not_mem_cons hreset
    obtain ⟨u, hstep⟩ := everyStepGoesOn.2 s
    have heffect := takeEvent_effect ((step_scheduled hp).symm.trans hstep)
    obtain hdone | ⟨hactive, hpending, hpolls⟩ := heffect.of_active ha he.symm
    · exact ⟨1, u, by simp, run_succ Sys2Proof.core hstep, hdone⟩
    · have hu : u.pollsLeft < rest.count .sequencer := by
        have hs : State.pollsLeft { s with pending := rest } = s.pollsLeft := rfl
        simp only [List.count_cons, beq_iff_eq] at hleft
        split_ifs at hpolls hleft <;> omega
      obtain ⟨k, t, hk, hrun, hdone⟩ := ih hpending hactive hrest hu
      exact ⟨k + 1, t, Nat.succ_le_succ hk, (run_succ Sys2Proof.core hstep).trans hrun, hdone⟩

/-- By induction on the polls left: with nothing scheduled every step is the sequencer's (log 4). -/
theorem unscheduled_reaches_done {n : Nat} {s : State} (hp : s.pending = []) (ha : s.rxState = .active)
    (hn : s.pollsLeft = n) :
    ∃ k t, k ≤ n + 1 ∧ Host.Core.run Sys2Proof.core k s = .next t ∧ t.rxState = .done := by
  induction n using Nat.strong_induction_on generalizing s with
  | _ n ih =>
    have hstep := step_unscheduled hp
    obtain hdone | ⟨hactive, hpending, hpolls⟩ := (sequencerStep_effect s).of_active ha nofun
    · exact ⟨1, _, by omega, run_succ Sys2Proof.core hstep, hdone⟩
    · rw [if_pos rfl] at hpolls
      obtain ⟨k, t, hk, hrun, hdone⟩ := ih _ (by omega) (hpending.trans hp) hactive rfl
      exact ⟨k + 1, t, by omega, (run_succ Sys2Proof.core hstep).trans hrun, hdone⟩

/-- Settles O54. -/
theorem everyReassemblyEnds : Obligations.EveryReassemblyEnds :=
  ⟨fun _ ha hreset hleft => schedule_reaches_done rfl ha hreset hleft,
    fun _ ha hp => unscheduled_reaches_done hp ha rfl⟩

/-! ## A whole response (R126) -/

/-- What one poll into the empty buffer makes of a response that waits whole in `RXQ`. -/
theorem poll_gathers_response {s : State} {mark ty lo hi : Byte} {payload rest : List Byte} (hcount : s.rxCount = 0)
    (hq : s.rxq = [mark, ty, lo, hi] ++ (payload ++ rest)) (hlen : payload.length = lo.toNat + 256 * hi.toNat)
    (hrest : 4 ≤ rest.length) :
    payload.length + 8 ≤ (poll s).rxCount.toNat ∧ (poll s).rxbuf.read 0 = mark ∧ (poll s).rxbuf.read 1 = ty ∧
      (poll s).declared = payload.length ∧
      ∀ j, j < payload.length → (poll s).rxbuf.read (4 + j) = payload.getD j 0 := by
  have hlo := lo.isLt
  have hhi := hi.isLt
  have hqlen : s.rxq.length = 4 + (payload.length + rest.length) := by simp [hq]; omega
  have h0 : s.rxCount.toNat = 0 := by rw [hcount]; rfl
  have htake : payload.length + 8 ≤ s.pollTake := by rw [pollTake_eq, h0]; omega
  have hread (j : Nat) (hj : j < payload.length + 8) : (poll s).rxbuf.read j = s.rxq.getD j 0 := by
    have := poll_read_taken (s := s) (hj.trans_le htake)
    rwa [h0, Nat.zero_add] at this
  refine ⟨?_, ?_, ?_, ?_, fun j hj => ?_⟩
  · rw [poll_rxCount_of_empty hcount]; omega
  · rw [hread 0 (by omega), hq]; rfl
  · rw [hread 1 (by omega), hq]; rfl
  · rw [declared_eq, hread 2 (by omega), hread 3 (by omega), hq, hlen]; rfl
  · rw [hread (4 + j) (by omega), hq, List.getD_append_right _ _ _ _ (Nat.le_add_right 4 j),
      show 4 + j - [mark, ty, lo, hi].length = j from Nat.add_sub_cancel_left 4 j, List.getD_append _ _ _ _ hj]

/-- A poll that reaches the target and a completion that accepts (verification off, R125). -/
theorem run_poll_accept {s : State} (hp : s.pending = [.sequencer, .sequencer]) (hlegal : s.inst.legal = true)
    (hctrl : s.ctrl = 0) (ha : s.rxState = .active) (hcount : s.rxCount = 0) (hiter : s.rxIter = 0)
    (htarget : s.rxExpect.toNat + 8 ≤ (poll s).rxCount.toNat) (hmark : (poll s).rxbuf.read 0 = s.inst.rspStartMark) :
    Host.Core.run Sys2Proof.core 2 s = .next (State.acceptResponse { poll s with pending := [] }) := by
  have hpoll := step_polls_of_started hp hlegal ha hcount hiter
  have hvalid : State.responseValid { poll s with pending := [] } = true :=
    (responseValid_iff _).2 ⟨(Nat.le_add_left 8 _).trans htarget, hmark⟩
  have hfinish : step (poll { s with pending := [.sequencer] }) =
      .next (State.acceptResponse { poll s with pending := [] }) :=
    (step_completes (s := poll { s with pending := [.sequencer] }) rfl ha (.inl htarget)).trans
      (congrArg _ (finish_unverified hvalid hctrl))
  exact (run_succ Sys2Proof.core hpoll).trans (run_succ Sys2Proof.core hfinish)

/-- The two sequencer steps of a reassembly that has begun with the whole response waiting: what the result registers and
`RX.GET` show afterwards. -/
theorem delivers_of_started {s : State} {ty lo hi : Byte} {payload rest : List Byte}
    (hp : s.pending = [.sequencer, .sequencer]) (hlegal : s.inst.legal = true) (hctrl : s.ctrl = 0)
    (ha : s.rxState = .active) (hcount : s.rxCount = 0) (hiter : s.rxIter = 0)
    (hexpect : s.rxExpect.toNat = payload.length) (hlen : payload.length = lo.toNat + 256 * hi.toNat)
    (hq : s.rxq = [s.inst.rspStartMark, ty, lo, hi] ++ (payload ++ rest)) (hrest : 4 ≤ rest.length) :
    ∃ t, Host.Core.run Sys2Proof.core 2 s = .next t ∧
      t.rxState = .done ∧ t.rxOk = true ∧ t.rxType = ty ∧ t.rxDecl.toNat = payload.length ∧
      t.rxPlen.toNat = payload.length ∧ t.crcAcc = s.crcAcc ∧ t.err = s.err ∧
      ∀ j, j < payload.length →
        exec (.rxGet j) t = .next { t with answer := some ⟨BitVec.ofNat 32 (payload.getD j 0).toNat, false⟩ } := by
  obtain ⟨htarget, hmark, htype, hdeclared, hpayload⟩ := poll_gathers_response hcount hq hlen hrest
  have hrun := run_poll_accept hp hlegal hctrl ha hcount hiter (by rwa [hexpect]) hmark
  have hplen : (State.acceptResponse { poll s with pending := [] }).rxPlen.toNat = payload.length := by
    refine (acceptResponse_rxPlen_toNat _).trans ((congrArg (min · _) hdeclared).trans (min_eq_left ?_))
    exact Nat.le_sub_of_add_le htarget
  refine ⟨_, hrun, rfl, rfl, htype, (acceptResponse_rxDecl_toNat _).trans hdeclared, hplen, rfl, rfl, fun j hj => ?_⟩
  obtain ⟨-, -, hget⟩ := rxGetReadsPayload.2 j (State.acceptResponse { poll s with pending := [] })
  have hget := hget rfl (by rwa [hplen])
  rwa [acceptResponse_rxbuf, hpayload j hj] at hget

/-- Settles O55: `RX.START` begins the reassembly, and `delivers_of_started` says what its two steps deliver. -/
theorem wholeResponseIsDelivered : Obligations.WholeResponseIsDelivered := by
  intro s ty lo hi payload trailer extra hlegal hctrl hb hlen htrailer hq hp
  have hlo := lo.isLt
  have hhi := hi.isLt
  have hfits : payload.length < 2 ^ 16 := by omega
  rw [List.append_assoc, List.append_assoc] at hq
  have hstart := (step_encoded hp (decide_eq_true hfits)).trans
    (exec_rxStart_accepted (s := { s with pending := [.sequencer, .sequencer] }) hb payload.length)
  obtain ⟨t, hrun, hdelivered⟩ := delivers_of_started
    (s := State.accepted { s with pending := [.sequencer, .sequencer] } (.rxStart payload.length))
    rfl hlegal hctrl rfl rfl rfl (Nat.mod_eq_of_lt hfits) hlen hq (by simp [htrailer])
  exact ⟨t, (run_succ Sys2Proof.core hstart).trans hrun, hdelivered⟩

end Sys2Proof.Machine
end
